-- ==== Sys2Proof/Word.lean ====
section
/-! DEFINITION. The machine's data and address words (10_state.md R20, R25; 20_memory.md R66). -/

namespace Sys2Proof

/-- A byte: the width of the data bus and of the eight CPU registers (00_scope.md R6). -/
abbrev Byte := BitVec 8

/-- A 16-bit word: the width of the address bus, PC, SP and the register pairs (00_scope.md R6). -/
abbrev Word := BitVec 16

end Sys2Proof
end

