-- ==== Sys2Proof/Config.lean ====
section
/-! DEFINITION. The named parameters of the spec (00_scope.md R7, 10_state.md R36), at the spec's defaults.
The spec leaves no value of an instruction undefined (70_reset_and_hazards.md R447), so there is no free value here. -/

namespace Sys2Proof.Config

/-- LCD_WIDTH, pixels per visible line. DESIGN CHOICE of the spec, D25 (log entry 19). -/
abbrev lcdWidth : Nat := 160
/-- LCD_HEIGHT, visible lines. -/
abbrev lcdHeight : Nat := 144
/-- The last scanline of a frame; there are 154 (00_scope.md R6). -/
abbrev lastLine : Nat := 153
/-- MODE2_CYCLES. DESIGN CHOICE of the spec, D25 (log entry 19). -/
abbrev mode2Cycles : Nat := 20
/-- MODE3_CYCLES. DESIGN CHOICE of the spec, D25 (log entry 19). -/
abbrev mode3Cycles : Nat := 43
/-- MODE0_CYCLES. DESIGN CHOICE of the spec, D25 (log entry 19). -/
abbrev mode0Cycles : Nat := 51
/-- LINE_CYCLES, the sum of the three. -/
abbrev lineCycles : Nat := 114
/-- OAM-DMA length in bytes (00_scope.md R6). -/
abbrev dmaLength : Nat := 160
/-- Cycles charged for an interrupt dispatch (00_scope.md R6). -/
abbrev dispatchCycles : Nat := 5
/-- PREFIX, the escape byte (30_encoding.md R103). -/
abbrev escapeByte : Byte := 0xCB#8

/-! Register addresses (10_state.md R36). -/
abbrev regDiv : Word := 0xFF04#16
abbrev regTima : Word := 0xFF05#16
abbrev regTma : Word := 0xFF06#16
abbrev regTac : Word := 0xFF07#16
abbrev regIf : Word := 0xFF0F#16
abbrev regLcdc : Word := 0xFF40#16
abbrev regStat : Word := 0xFF41#16
abbrev regScy : Word := 0xFF42#16
abbrev regScx : Word := 0xFF43#16
abbrev regLy : Word := 0xFF44#16
abbrev regLyc : Word := 0xFF45#16
abbrev regDma : Word := 0xFF46#16
abbrev regBgp : Word := 0xFF47#16
abbrev regObp0 : Word := 0xFF48#16
abbrev regObp1 : Word := 0xFF49#16
abbrev regWy : Word := 0xFF4A#16
abbrev regWx : Word := 0xFF4B#16
abbrev regIe : Word := 0xFFFF#16

end Sys2Proof.Config
end

