-- ==== Sys2Proof/Syntax.lean ====
section
/-! DEFINITION. The instruction set as syntax: one constructor of Instr per row of spec/opcode_table.json
(30_encoding.md R100 to R116), and the operand kinds the families of rows range over. -/

namespace Sys2Proof

/-- The 8-bit operand registers of the 3-bit code (30_encoding.md R105); F has no code. -/
inductive Reg8 where
  | B | C | D | E | H | L | A
  deriving DecidableEq, Repr

/-- The pairs of the 2-bit code `r16(p)` (30_encoding.md R106). -/
inductive Pair where
  | BC | DE | HL | SP
  deriving DecidableEq, Repr

/-- The pairs of the 2-bit code `r16stk(p)` (30_encoding.md R106). -/
inductive StackPair where
  | BC | DE | HL | AF
  deriving DecidableEq, Repr

/-- The condition code (30_encoding.md R107). -/
inductive Cond where
  | NZ | Z | NC | C
  deriving DecidableEq, Repr

/-- The eight accumulator operations in the order of field `y` (30_encoding.md R114, x = 2). -/
inductive AluOp where
  | add | adc | sub | sbc | and | xor | or | cp
  deriving DecidableEq, Repr

/-- The eight prefixed rotate and shift kinds in the order of field `y` (30_encoding.md R115, x = 0). -/
inductive RotOp where
  | rlc | rrc | rl | rr | sla | sra | swap | srl
  deriving DecidableEq, Repr

/-- One constructor per row of the opcode table. Operands: `n` the unsigned immediate byte, `e` the byte read as
signed, `nn` the 16-bit immediate (30_encoding.md R113), `b` the bit index (R108). In a name, `m` before an
operand stands for parentheses (the byte at that address), `mHLi` and `mHLd` for (HL+) and (HL-).
`escape op2` is the row PREFIX (R103): the escape byte with the byte that selects a prefixed row. The rows with
operands stand first (Lean's compiler wants small tags for them), each group in the table's order. -/
inductive Instr where
  | ld_BC_nn (nn : Word)  -- LD BC,nn, R190
  | ld_B_n (n : Byte)  -- LD B,n, R161
  | ld_mnn_SP (nn : Word)  -- LD (nn),SP, R191
  | ld_C_n (n : Byte)  -- LD C,n, R161
  | ld_DE_nn (nn : Word)  -- LD DE,nn, R190
  | ld_D_n (n : Byte)  -- LD D,n, R161
  | jr_e (e : Byte)  -- JR e, R293
  | ld_E_n (n : Byte)  -- LD E,n, R161
  | jr_NZ_e (e : Byte)  -- JR NZ,e, R294
  | ld_HL_nn (nn : Word)  -- LD HL,nn, R190
  | ld_H_n (n : Byte)  -- LD H,n, R161
  | jr_Z_e (e : Byte)  -- JR Z,e, R294
  | ld_L_n (n : Byte)  -- LD L,n, R161
  | jr_NC_e (e : Byte)  -- JR NC,e, R294
  | ld_SP_nn (nn : Word)  -- LD SP,nn, R190
  | ld_mHL_n (n : Byte)  -- LD (HL),n, R164
  | jr_C_e (e : Byte)  -- JR C,e, R294
  | ld_A_n (n : Byte)  -- LD A,n, R161
  | jp_NZ_nn (nn : Word)  -- JP NZ,nn, R291
  | jp_nn (nn : Word)  -- JP nn, R290
  | call_NZ_nn (nn : Word)  -- CALL NZ,nn, R296
  | add_A_n (n : Byte)  -- ADD A,n, R211
  | jp_Z_nn (nn : Word)  -- JP Z,nn, R291
  | escape (op2 : Byte)  -- PREFIX, R103
  | call_Z_nn (nn : Word)  -- CALL Z,nn, R296
  | call_nn (nn : Word)  -- CALL nn, R295
  | adc_A_n (n : Byte)  -- ADC A,n, R214
  | jp_NC_nn (nn : Word)  -- JP NC,nn, R291
  | call_NC_nn (nn : Word)  -- CALL NC,nn, R296
  | sub_n (n : Byte)  -- SUB n, R217
  | jp_C_nn (nn : Word)  -- JP C,nn, R291
  | call_C_nn (nn : Word)  -- CALL C,nn, R296
  | sbc_A_n (n : Byte)  -- SBC A,n, R220
  | ldh_mn_A (n : Byte)  -- LDH (n),A, R172
  | and_n (n : Byte)  -- AND n, R223
  | add_SP_e (e : Byte)  -- ADD SP,e, R253
  | ld_mnn_A (nn : Word)  -- LD (nn),A, R170
  | xor_n (n : Byte)  -- XOR n, R226
  | ldh_A_mn (n : Byte)  -- LDH A,(n), R171
  | or_n (n : Byte)  -- OR n, R229
  | ld_HL_SPe (e : Byte)  -- LD HL,SP+e, R193
  | ld_A_mnn (nn : Word)  -- LD A,(nn), R169
  | cp_n (n : Byte)  -- CP n, R232
  | bit_b_B (b : Fin 8)  -- BIT b,B, R280
  | bit_b_C (b : Fin 8)  -- BIT b,C, R280
  | bit_b_D (b : Fin 8)  -- BIT b,D, R280
  | bit_b_E (b : Fin 8)  -- BIT b,E, R280
  | bit_b_H (b : Fin 8)  -- BIT b,H, R280
  | bit_b_L (b : Fin 8)  -- BIT b,L, R280
  | bit_b_mHL (b : Fin 8)  -- BIT b,(HL), R281
  | bit_b_A (b : Fin 8)  -- BIT b,A, R280
  | res_b_B (b : Fin 8)  -- RES b,B, R282
  | res_b_C (b : Fin 8)  -- RES b,C, R282
  | res_b_D (b : Fin 8)  -- RES b,D, R282
  | res_b_E (b : Fin 8)  -- RES b,E, R282
  | res_b_H (b : Fin 8)  -- RES b,H, R282
  | res_b_L (b : Fin 8)  -- RES b,L, R282
  | res_b_mHL (b : Fin 8)  -- RES b,(HL), R283
  | res_b_A (b : Fin 8)  -- RES b,A, R282
  | set_b_B (b : Fin 8)  -- SET b,B, R284
  | set_b_C (b : Fin 8)  -- SET b,C, R284
  | set_b_D (b : Fin 8)  -- SET b,D, R284
  | set_b_E (b : Fin 8)  -- SET b,E, R284
  | set_b_H (b : Fin 8)  -- SET b,H, R284
  | set_b_L (b : Fin 8)  -- SET b,L, R284
  | set_b_mHL (b : Fin 8)  -- SET b,(HL), R285
  | set_b_A (b : Fin 8)  -- SET b,A, R284
  | nop  -- NOP, R310
  | ld_mBC_A  -- LD (BC),A, R167
  | inc_BC  -- INC BC, R251
  | inc_B  -- INC B, R234
  | dec_B  -- DEC B, R236
  | rlca  -- RLCA, R260
  | add_HL_BC  -- ADD HL,BC, R250
  | ld_A_mBC  -- LD A,(BC), R165
  | dec_BC  -- DEC BC, R252
  | inc_C  -- INC C, R234
  | dec_C  -- DEC C, R236
  | rrca  -- RRCA, R261
  | stop  -- STOP, R313
  | ld_mDE_A  -- LD (DE),A, R168
  | inc_DE  -- INC DE, R251
  | inc_D  -- INC D, R234
  | dec_D  -- DEC D, R236
  | rla  -- RLA, R262
  | add_HL_DE  -- ADD HL,DE, R250
  | ld_A_mDE  -- LD A,(DE), R166
  | dec_DE  -- DEC DE, R252
  | inc_E  -- INC E, R234
  | dec_E  -- DEC E, R236
  | rra  -- RRA, R263
  | ld_mHLi_A  -- LD (HL+),A, R177
  | inc_HL  -- INC HL, R251
  | inc_H  -- INC H, R234
  | dec_H  -- DEC H, R236
  | daa  -- DAA, R238
  | add_HL_HL  -- ADD HL,HL, R250
  | ld_A_mHLi  -- LD A,(HL+), R175
  | dec_HL  -- DEC HL, R252
  | inc_L  -- INC L, R234
  | dec_L  -- DEC L, R236
  | cpl  -- CPL, R239
  | ld_mHLd_A  -- LD (HL-),A, R178
  | inc_SP  -- INC SP, R251
  | inc_mHL  -- INC (HL), R235
  | dec_mHL  -- DEC (HL), R237
  | scf  -- SCF, R240
  | add_HL_SP  -- ADD HL,SP, R250
  | ld_A_mHLd  -- LD A,(HL-), R176
  | dec_SP  -- DEC SP, R252
  | inc_A  -- INC A, R234
  | dec_A  -- DEC A, R236
  | ccf  -- CCF, R241
  | ld_B_B  -- LD B,B, R160
  | ld_B_C  -- LD B,C, R160
  | ld_B_D  -- LD B,D, R160
  | ld_B_E  -- LD B,E, R160
  | ld_B_H  -- LD B,H, R160
  | ld_B_L  -- LD B,L, R160
  | ld_B_mHL  -- LD B,(HL), R162
  | ld_B_A  -- LD B,A, R160
  | ld_C_B  -- LD C,B, R160
  | ld_C_C  -- LD C,C, R160
  | ld_C_D  -- LD C,D, R160
  | ld_C_E  -- LD C,E, R160
  | ld_C_H  -- LD C,H, R160
  | ld_C_L  -- LD C,L, R160
  | ld_C_mHL  -- LD C,(HL), R162
  | ld_C_A  -- LD C,A, R160
  | ld_D_B  -- LD D,B, R160
  | ld_D_C  -- LD D,C, R160
  | ld_D_D  -- LD D,D, R160
  | ld_D_E  -- LD D,E, R160
  | ld_D_H  -- LD D,H, R160
  | ld_D_L  -- LD D,L, R160
  | ld_D_mHL  -- LD D,(HL), R162
  | ld_D_A  -- LD D,A, R160
  | ld_E_B  -- LD E,B, R160
  | ld_E_C  -- LD E,C, R160
  | ld_E_D  -- LD E,D, R160
  | ld_E_E  -- LD E,E, R160
  | ld_E_H  -- LD E,H, R160
  | ld_E_L  -- LD E,L, R160
  | ld_E_mHL  -- LD E,(HL), R162
  | ld_E_A  -- LD E,A, R160
  | ld_H_B  -- LD H,B, R160
  | ld_H_C  -- LD H,C, R160
  | ld_H_D  -- LD H,D, R160
  | ld_H_E  -- LD H,E, R160
  | ld_H_H  -- LD H,H, R160
  | ld_H_L  -- LD H,L, R160
  | ld_H_mHL  -- LD H,(HL), R162
  | ld_H_A  -- LD H,A, R160
  | ld_L_B  -- LD L,B, R160
  | ld_L_C  -- LD L,C, R160
  | ld_L_D  -- LD L,D, R160
  | ld_L_E  -- LD L,E, R160
  | ld_L_H  -- LD L,H, R160
  | ld_L_L  -- LD L,L, R160
  | ld_L_mHL  -- LD L,(HL), R162
  | ld_L_A  -- LD L,A, R160
  | ld_mHL_B  -- LD (HL),B, R163
  | ld_mHL_C  -- LD (HL),C, R163
  | ld_mHL_D  -- LD (HL),D, R163
  | ld_mHL_E  -- LD (HL),E, R163
  | ld_mHL_H  -- LD (HL),H, R163
  | ld_mHL_L  -- LD (HL),L, R163
  | halt  -- HALT, R312
  | ld_mHL_A  -- LD (HL),A, R163
  | ld_A_B  -- LD A,B, R160
  | ld_A_C  -- LD A,C, R160
  | ld_A_D  -- LD A,D, R160
  | ld_A_E  -- LD A,E, R160
  | ld_A_H  -- LD A,H, R160
  | ld_A_L  -- LD A,L, R160
  | ld_A_mHL  -- LD A,(HL), R162
  | ld_A_A  -- LD A,A, R160
  | add_A_B  -- ADD A,B, R210
  | add_A_C  -- ADD A,C, R210
  | add_A_D  -- ADD A,D, R210
  | add_A_E  -- ADD A,E, R210
  | add_A_H  -- ADD A,H, R210
  | add_A_L  -- ADD A,L, R210
  | add_A_mHL  -- ADD A,(HL), R212
  | add_A_A  -- ADD A,A, R210
  | adc_A_B  -- ADC A,B, R213
  | adc_A_C  -- ADC A,C, R213
  | adc_A_D  -- ADC A,D, R213
  | adc_A_E  -- ADC A,E, R213
  | adc_A_H  -- ADC A,H, R213
  | adc_A_L  -- ADC A,L, R213
  | adc_A_mHL  -- ADC A,(HL), R215
  | adc_A_A  -- ADC A,A, R213
  | sub_B  -- SUB B, R216
  | sub_C  -- SUB C, R216
  | sub_D  -- SUB D, R216
  | sub_E  -- SUB E, R216
  | sub_H  -- SUB H, R216
  | sub_L  -- SUB L, R216
  | sub_mHL  -- SUB (HL), R218
  | sub_A  -- SUB A, R216
  | sbc_A_B  -- SBC A,B, R219
  | sbc_A_C  -- SBC A,C, R219
  | sbc_A_D  -- SBC A,D, R219
  | sbc_A_E  -- SBC A,E, R219
  | sbc_A_H  -- SBC A,H, R219
  | sbc_A_L  -- SBC A,L, R219
  | sbc_A_mHL  -- SBC A,(HL), R221
  | sbc_A_A  -- SBC A,A, R219
  | and_B  -- AND B, R222
  | and_C  -- AND C, R222
  | and_D  -- AND D, R222
  | and_E  -- AND E, R222
  | and_H  -- AND H, R222
  | and_L  -- AND L, R222
  | and_mHL  -- AND (HL), R224
  | and_A  -- AND A, R222
  | xor_B  -- XOR B, R225
  | xor_C  -- XOR C, R225
  | xor_D  -- XOR D, R225
  | xor_E  -- XOR E, R225
  | xor_H  -- XOR H, R225
  | xor_L  -- XOR L, R225
  | xor_mHL  -- XOR (HL), R227
  | xor_A  -- XOR A, R225
  | or_B  -- OR B, R228
  | or_C  -- OR C, R228
  | or_D  -- OR D, R228
  | or_E  -- OR E, R228
  | or_H  -- OR H, R228
  | or_L  -- OR L, R228
  | or_mHL  -- OR (HL), R230
  | or_A  -- OR A, R228
  | cp_B  -- CP B, R231
  | cp_C  -- CP C, R231
  | cp_D  -- CP D, R231
  | cp_E  -- CP E, R231
  | cp_H  -- CP H, R231
  | cp_L  -- CP L, R231
  | cp_mHL  -- CP (HL), R233
  | cp_A  -- CP A, R231
  | ret_NZ  -- RET NZ, R298
  | pop_BC  -- POP BC, R195
  | push_BC  -- PUSH BC, R194
  | rst_00  -- RST 0x00, R300
  | ret_Z  -- RET Z, R298
  | ret  -- RET, R297
  | rst_08  -- RST 0x08, R300
  | ret_NC  -- RET NC, R298
  | pop_DE  -- POP DE, R195
  | illegal_D3  -- ILLEGAL_D3, R315
  | push_DE  -- PUSH DE, R194
  | rst_10  -- RST 0x10, R300
  | ret_C  -- RET C, R298
  | reti  -- RETI, R299
  | illegal_DB  -- ILLEGAL_DB, R315
  | illegal_DD  -- ILLEGAL_DD, R315
  | rst_18  -- RST 0x18, R300
  | pop_HL  -- POP HL, R195
  | ld_mC_A  -- LD (C),A, R174
  | illegal_E3  -- ILLEGAL_E3, R315
  | illegal_E4  -- ILLEGAL_E4, R315
  | push_HL  -- PUSH HL, R194
  | rst_20  -- RST 0x20, R300
  | jp_HL  -- JP HL, R292
  | illegal_EB  -- ILLEGAL_EB, R315
  | illegal_EC  -- ILLEGAL_EC, R315
  | illegal_ED  -- ILLEGAL_ED, R315
  | rst_28  -- RST 0x28, R300
  | pop_AF  -- POP AF, R203
  | ld_A_mC  -- LD A,(C), R173
  | di  -- DI, R311
  | illegal_F4  -- ILLEGAL_F4, R315
  | push_AF  -- PUSH AF, R194
  | rst_30  -- RST 0x30, R300
  | ld_SP_HL  -- LD SP,HL, R192
  | ei  -- EI, R314
  | illegal_FC  -- ILLEGAL_FC, R315
  | illegal_FD  -- ILLEGAL_FD, R315
  | rst_38  -- RST 0x38, R300
  | rlc_B  -- RLC B, R264
  | rlc_C  -- RLC C, R264
  | rlc_D  -- RLC D, R264
  | rlc_E  -- RLC E, R264
  | rlc_H  -- RLC H, R264
  | rlc_L  -- RLC L, R264
  | rlc_mHL  -- RLC (HL), R265
  | rlc_A  -- RLC A, R264
  | rrc_B  -- RRC B, R266
  | rrc_C  -- RRC C, R266
  | rrc_D  -- RRC D, R266
  | rrc_E  -- RRC E, R266
  | rrc_H  -- RRC H, R266
  | rrc_L  -- RRC L, R266
  | rrc_mHL  -- RRC (HL), R267
  | rrc_A  -- RRC A, R266
  | rl_B  -- RL B, R268
  | rl_C  -- RL C, R268
  | rl_D  -- RL D, R268
  | rl_E  -- RL E, R268
  | rl_H  -- RL H, R268
  | rl_L  -- RL L, R268
  | rl_mHL  -- RL (HL), R269
  | rl_A  -- RL A, R268
  | rr_B  -- RR B, R270
  | rr_C  -- RR C, R270
  | rr_D  -- RR D, R270
  | rr_E  -- RR E, R270
  | rr_H  -- RR H, R270
  | rr_L  -- RR L, R270
  | rr_mHL  -- RR (HL), R271
  | rr_A  -- RR A, R270
  | sla_B  -- SLA B, R272
  | sla_C  -- SLA C, R272
  | sla_D  -- SLA D, R272
  | sla_E  -- SLA E, R272
  | sla_H  -- SLA H, R272
  | sla_L  -- SLA L, R272
  | sla_mHL  -- SLA (HL), R273
  | sla_A  -- SLA A, R272
  | sra_B  -- SRA B, R274
  | sra_C  -- SRA C, R274
  | sra_D  -- SRA D, R274
  | sra_E  -- SRA E, R274
  | sra_H  -- SRA H, R274
  | sra_L  -- SRA L, R274
  | sra_mHL  -- SRA (HL), R275
  | sra_A  -- SRA A, R274
  | swap_B  -- SWAP B, R276
  | swap_C  -- SWAP C, R276
  | swap_D  -- SWAP D, R276
  | swap_E  -- SWAP E, R276
  | swap_H  -- SWAP H, R276
  | swap_L  -- SWAP L, R276
  | swap_mHL  -- SWAP (HL), R277
  | swap_A  -- SWAP A, R276
  | srl_B  -- SRL B, R278
  | srl_C  -- SRL C, R278
  | srl_D  -- SRL D, R278
  | srl_E  -- SRL E, R278
  | srl_H  -- SRL H, R278
  | srl_L  -- SRL L, R278
  | srl_mHL  -- SRL (HL), R279
  | srl_A  -- SRL A, R278
  deriving DecidableEq, Repr

end Sys2Proof
end

