-- ==== Sys2Proof/WellFormed.lean ====
section
/-! DEFINITION. Which terms of Instr are instructions. The operand widths are in the types, so one check is left:
the escape byte is no instruction by itself (30_encoding.md R103). -/

namespace Sys2Proof

/-- The escape byte "is not an instruction by itself: it has no family" (30_encoding.md R103). -/
def Instr.isEscape : Instr → Bool
  | .escape _ => true
  | _ => false

/-- A well-formed instruction: any row but the bare escape. DEDUCED (log entry 7). -/
def Instr.wellFormed (i : Instr) : Bool := !i.isEscape

end Sys2Proof
end

