-- ==== Sys2Proof/Decode.lean ====
section
/-! DEFINITION. Decoding and encoding (30_encoding.md). The decoder reads the fields x, y, z, p, q of R101 as
R114 and R115 say; it is total on bytes and rejects a list that ends too early by name. The encoder gives every
constructor the opcode byte of its row of spec/opcode_table.json. -/

namespace Sys2Proof

/-! ## Byte order (20_memory.md R68) -/

/-- `hi ++ lo`: the word whose bytes in memory are `lo` then `hi` (00_scope.md R13). -/
def wordOf (hi lo : Byte) : Word := hi ++ lo
/-- `v[15:8]`. -/
def hiByte (v : Word) : Byte := v.extractLsb' 8 8
/-- `v[7:0]`. -/
def loByte (v : Word) : Byte := v.extractLsb' 0 8

/-! ## Families: the rows of one rule as a function of their operands -/

/-- LD r,r' (41_load8.md R160). -/
def Instr.ldRR : Reg8 → Reg8 → Instr
  | .B, .B => .ld_B_B
  | .B, .C => .ld_B_C
  | .B, .D => .ld_B_D
  | .B, .E => .ld_B_E
  | .B, .H => .ld_B_H
  | .B, .L => .ld_B_L
  | .B, .A => .ld_B_A
  | .C, .B => .ld_C_B
  | .C, .C => .ld_C_C
  | .C, .D => .ld_C_D
  | .C, .E => .ld_C_E
  | .C, .H => .ld_C_H
  | .C, .L => .ld_C_L
  | .C, .A => .ld_C_A
  | .D, .B => .ld_D_B
  | .D, .C => .ld_D_C
  | .D, .D => .ld_D_D
  | .D, .E => .ld_D_E
  | .D, .H => .ld_D_H
  | .D, .L => .ld_D_L
  | .D, .A => .ld_D_A
  | .E, .B => .ld_E_B
  | .E, .C => .ld_E_C
  | .E, .D => .ld_E_D
  | .E, .E => .ld_E_E
  | .E, .H => .ld_E_H
  | .E, .L => .ld_E_L
  | .E, .A => .ld_E_A
  | .H, .B => .ld_H_B
  | .H, .C => .ld_H_C
  | .H, .D => .ld_H_D
  | .H, .E => .ld_H_E
  | .H, .H => .ld_H_H
  | .H, .L => .ld_H_L
  | .H, .A => .ld_H_A
  | .L, .B => .ld_L_B
  | .L, .C => .ld_L_C
  | .L, .D => .ld_L_D
  | .L, .E => .ld_L_E
  | .L, .H => .ld_L_H
  | .L, .L => .ld_L_L
  | .L, .A => .ld_L_A
  | .A, .B => .ld_A_B
  | .A, .C => .ld_A_C
  | .A, .D => .ld_A_D
  | .A, .E => .ld_A_E
  | .A, .H => .ld_A_H
  | .A, .L => .ld_A_L
  | .A, .A => .ld_A_A

/-- LD r,n (R161). -/
def Instr.ldRN : Reg8 → Byte → Instr
  | .B, n => .ld_B_n n
  | .C, n => .ld_C_n n
  | .D, n => .ld_D_n n
  | .E, n => .ld_E_n n
  | .H, n => .ld_H_n n
  | .L, n => .ld_L_n n
  | .A, n => .ld_A_n n

/-- LD r,(HL) (R162). -/
def Instr.ldRM : Reg8 → Instr
  | .B => .ld_B_mHL
  | .C => .ld_C_mHL
  | .D => .ld_D_mHL
  | .E => .ld_E_mHL
  | .H => .ld_H_mHL
  | .L => .ld_L_mHL
  | .A => .ld_A_mHL

/-- LD (HL),r (R163). -/
def Instr.ldMR : Reg8 → Instr
  | .B => .ld_mHL_B
  | .C => .ld_mHL_C
  | .D => .ld_mHL_D
  | .E => .ld_mHL_E
  | .H => .ld_mHL_H
  | .L => .ld_mHL_L
  | .A => .ld_mHL_A

/-- LD rr,nn (42_load16_stack.md R190). -/
def Instr.ldPairNN : Pair → Word → Instr
  | .BC, nn => .ld_BC_nn nn
  | .DE, nn => .ld_DE_nn nn
  | .HL, nn => .ld_HL_nn nn
  | .SP, nn => .ld_SP_nn nn

/-- PUSH rr (R194). -/
def Instr.pushPair : StackPair → Instr
  | .BC => .push_BC
  | .DE => .push_DE
  | .HL => .push_HL
  | .AF => .push_AF

/-- POP rr (R195) and POP AF (R203). -/
def Instr.popPair : StackPair → Instr
  | .BC => .pop_BC
  | .DE => .pop_DE
  | .HL => .pop_HL
  | .AF => .pop_AF

/-- The accumulator operations on a register (43_arith8.md R210 to R231). -/
def Instr.aluR : AluOp → Reg8 → Instr
  | .add, .B => .add_A_B
  | .add, .C => .add_A_C
  | .add, .D => .add_A_D
  | .add, .E => .add_A_E
  | .add, .H => .add_A_H
  | .add, .L => .add_A_L
  | .add, .A => .add_A_A
  | .adc, .B => .adc_A_B
  | .adc, .C => .adc_A_C
  | .adc, .D => .adc_A_D
  | .adc, .E => .adc_A_E
  | .adc, .H => .adc_A_H
  | .adc, .L => .adc_A_L
  | .adc, .A => .adc_A_A
  | .sub, .B => .sub_B
  | .sub, .C => .sub_C
  | .sub, .D => .sub_D
  | .sub, .E => .sub_E
  | .sub, .H => .sub_H
  | .sub, .L => .sub_L
  | .sub, .A => .sub_A
  | .sbc, .B => .sbc_A_B
  | .sbc, .C => .sbc_A_C
  | .sbc, .D => .sbc_A_D
  | .sbc, .E => .sbc_A_E
  | .sbc, .H => .sbc_A_H
  | .sbc, .L => .sbc_A_L
  | .sbc, .A => .sbc_A_A
  | .and, .B => .and_B
  | .and, .C => .and_C
  | .and, .D => .and_D
  | .and, .E => .and_E
  | .and, .H => .and_H
  | .and, .L => .and_L
  | .and, .A => .and_A
  | .xor, .B => .xor_B
  | .xor, .C => .xor_C
  | .xor, .D => .xor_D
  | .xor, .E => .xor_E
  | .xor, .H => .xor_H
  | .xor, .L => .xor_L
  | .xor, .A => .xor_A
  | .or, .B => .or_B
  | .or, .C => .or_C
  | .or, .D => .or_D
  | .or, .E => .or_E
  | .or, .H => .or_H
  | .or, .L => .or_L
  | .or, .A => .or_A
  | .cp, .B => .cp_B
  | .cp, .C => .cp_C
  | .cp, .D => .cp_D
  | .cp, .E => .cp_E
  | .cp, .H => .cp_H
  | .cp, .L => .cp_L
  | .cp, .A => .cp_A

/-- The accumulator operations on an immediate. -/
def Instr.aluN : AluOp → Byte → Instr
  | .add, n => .add_A_n n
  | .adc, n => .adc_A_n n
  | .sub, n => .sub_n n
  | .sbc, n => .sbc_A_n n
  | .and, n => .and_n n
  | .xor, n => .xor_n n
  | .or, n => .or_n n
  | .cp, n => .cp_n n

/-- The accumulator operations on the byte at HL. -/
def Instr.aluM : AluOp → Instr
  | .add => .add_A_mHL
  | .adc => .adc_A_mHL
  | .sub => .sub_mHL
  | .sbc => .sbc_A_mHL
  | .and => .and_mHL
  | .xor => .xor_mHL
  | .or => .or_mHL
  | .cp => .cp_mHL

/-- INC r (R234). -/
def Instr.incR : Reg8 → Instr
  | .B => .inc_B
  | .C => .inc_C
  | .D => .inc_D
  | .E => .inc_E
  | .H => .inc_H
  | .L => .inc_L
  | .A => .inc_A

/-- DEC r (R236). -/
def Instr.decR : Reg8 → Instr
  | .B => .dec_B
  | .C => .dec_C
  | .D => .dec_D
  | .E => .dec_E
  | .H => .dec_H
  | .L => .dec_L
  | .A => .dec_A

/-- ADD HL,rr (44_arith16.md R250). -/
def Instr.addHL : Pair → Instr
  | .BC => .add_HL_BC
  | .DE => .add_HL_DE
  | .HL => .add_HL_HL
  | .SP => .add_HL_SP

/-- INC rr (R251). -/
def Instr.incPair : Pair → Instr
  | .BC => .inc_BC
  | .DE => .inc_DE
  | .HL => .inc_HL
  | .SP => .inc_SP

/-- DEC rr (R252). -/
def Instr.decPair : Pair → Instr
  | .BC => .dec_BC
  | .DE => .dec_DE
  | .HL => .dec_HL
  | .SP => .dec_SP

/-- JP cc,nn (46_control.md R291). -/
def Instr.jpCond : Cond → Word → Instr
  | .NZ, nn => .jp_NZ_nn nn
  | .Z, nn => .jp_Z_nn nn
  | .NC, nn => .jp_NC_nn nn
  | .C, nn => .jp_C_nn nn

/-- JR cc,e (R294). -/
def Instr.jrCond : Cond → Byte → Instr
  | .NZ, e => .jr_NZ_e e
  | .Z, e => .jr_Z_e e
  | .NC, e => .jr_NC_e e
  | .C, e => .jr_C_e e

/-- CALL cc,nn (R296). -/
def Instr.callCond : Cond → Word → Instr
  | .NZ, nn => .call_NZ_nn nn
  | .Z, nn => .call_Z_nn nn
  | .NC, nn => .call_NC_nn nn
  | .C, nn => .call_C_nn nn

/-- RET cc (R298). -/
def Instr.retCond : Cond → Instr
  | .NZ => .ret_NZ
  | .Z => .ret_Z
  | .NC => .ret_NC
  | .C => .ret_C

/-- RST with vector number y (R300, 30_encoding.md R108). -/
def Instr.rst : Fin 8 → Instr
  | 0 => .rst_00
  | 1 => .rst_08
  | 2 => .rst_10
  | 3 => .rst_18
  | 4 => .rst_20
  | 5 => .rst_28
  | 6 => .rst_30
  | 7 => .rst_38

/-- The prefixed rotates and shifts on a register (45_rotate_shift_bit.md R264 to R278). -/
def Instr.rotR : RotOp → Reg8 → Instr
  | .rlc, .B => .rlc_B
  | .rlc, .C => .rlc_C
  | .rlc, .D => .rlc_D
  | .rlc, .E => .rlc_E
  | .rlc, .H => .rlc_H
  | .rlc, .L => .rlc_L
  | .rlc, .A => .rlc_A
  | .rrc, .B => .rrc_B
  | .rrc, .C => .rrc_C
  | .rrc, .D => .rrc_D
  | .rrc, .E => .rrc_E
  | .rrc, .H => .rrc_H
  | .rrc, .L => .rrc_L
  | .rrc, .A => .rrc_A
  | .rl, .B => .rl_B
  | .rl, .C => .rl_C
  | .rl, .D => .rl_D
  | .rl, .E => .rl_E
  | .rl, .H => .rl_H
  | .rl, .L => .rl_L
  | .rl, .A => .rl_A
  | .rr, .B => .rr_B
  | .rr, .C => .rr_C
  | .rr, .D => .rr_D
  | .rr, .E => .rr_E
  | .rr, .H => .rr_H
  | .rr, .L => .rr_L
  | .rr, .A => .rr_A
  | .sla, .B => .sla_B
  | .sla, .C => .sla_C
  | .sla, .D => .sla_D
  | .sla, .E => .sla_E
  | .sla, .H => .sla_H
  | .sla, .L => .sla_L
  | .sla, .A => .sla_A
  | .sra, .B => .sra_B
  | .sra, .C => .sra_C
  | .sra, .D => .sra_D
  | .sra, .E => .sra_E
  | .sra, .H => .sra_H
  | .sra, .L => .sra_L
  | .sra, .A => .sra_A
  | .swap, .B => .swap_B
  | .swap, .C => .swap_C
  | .swap, .D => .swap_D
  | .swap, .E => .swap_E
  | .swap, .H => .swap_H
  | .swap, .L => .swap_L
  | .swap, .A => .swap_A
  | .srl, .B => .srl_B
  | .srl, .C => .srl_C
  | .srl, .D => .srl_D
  | .srl, .E => .srl_E
  | .srl, .H => .srl_H
  | .srl, .L => .srl_L
  | .srl, .A => .srl_A

/-- The prefixed rotates and shifts on the byte at HL (R265 to R279). -/
def Instr.rotM : RotOp → Instr
  | .rlc => .rlc_mHL
  | .rrc => .rrc_mHL
  | .rl => .rl_mHL
  | .rr => .rr_mHL
  | .sla => .sla_mHL
  | .sra => .sra_mHL
  | .swap => .swap_mHL
  | .srl => .srl_mHL

/-- BIT b,r (R280). -/
def Instr.bitR : Fin 8 → Reg8 → Instr
  | b, .B => .bit_b_B b
  | b, .C => .bit_b_C b
  | b, .D => .bit_b_D b
  | b, .E => .bit_b_E b
  | b, .H => .bit_b_H b
  | b, .L => .bit_b_L b
  | b, .A => .bit_b_A b

/-- RES b,r (R282). -/
def Instr.resR : Fin 8 → Reg8 → Instr
  | b, .B => .res_b_B b
  | b, .C => .res_b_C b
  | b, .D => .res_b_D b
  | b, .E => .res_b_E b
  | b, .H => .res_b_H b
  | b, .L => .res_b_L b
  | b, .A => .res_b_A b

/-- SET b,r (R284). -/
def Instr.setR : Fin 8 → Reg8 → Instr
  | b, .B => .set_b_B b
  | b, .C => .set_b_C b
  | b, .D => .set_b_D b
  | b, .E => .set_b_E b
  | b, .H => .set_b_H b
  | b, .L => .set_b_L b
  | b, .A => .set_b_A b

/-! ## Operand fields (30_encoding.md R101, R105 to R108) -/

/-- Field `x` = `op[7:6]`. -/
def fieldX (op : Byte) : Nat := op.toNat / 64
/-- Field `y` = `op[5:3]`. -/
def fieldY (op : Byte) : Nat := op.toNat / 8 % 8
/-- Field `z` = `op[2:0]`. -/
def fieldZ (op : Byte) : Nat := op.toNat % 8

/-- What the 3-bit register code names: a register, or (code 6) the byte at HL (R105, 90_conflicts.md C6). -/
inductive Operand8 where
  | reg (r : Reg8)
  | atHL
  deriving DecidableEq, Repr

/-- `r8(k)` with code 6 kept apart (R105). -/
def operand8 : Nat → Operand8
  | 0 => .reg .B
  | 1 => .reg .C
  | 2 => .reg .D
  | 3 => .reg .E
  | 4 => .reg .H
  | 5 => .reg .L
  | 6 => .atHL
  | _ => .reg .A

/-- `r16(p)`, from the field `y` whose high two bits are `p` (R101, R106). -/
def pairOfY (y : Nat) : Pair :=
  match y / 2 with
  | 0 => .BC
  | 1 => .DE
  | 2 => .HL
  | _ => .SP

/-- `r16stk(p)`, from the field `y` (R101, R106). -/
def stackPairOfY (y : Nat) : StackPair :=
  match y / 2 with
  | 0 => .BC
  | 1 => .DE
  | 2 => .HL
  | _ => .AF

/-- The condition code, the low two bits of `y` (R107, 90_conflicts.md C1). -/
def condOfY (y : Nat) : Cond :=
  match y % 4 with
  | 0 => .NZ
  | 1 => .Z
  | 2 => .NC
  | _ => .C

/-- The accumulator operation of field `y` (R114). -/
def aluOfY : Nat → AluOp
  | 0 => .add
  | 1 => .adc
  | 2 => .sub
  | 3 => .sbc
  | 4 => .and
  | 5 => .xor
  | 6 => .or
  | _ => .cp

/-- The rotate or shift kind of field `y` (R115). -/
def rotOfY : Nat → RotOp
  | 0 => .rlc
  | 1 => .rrc
  | 2 => .rl
  | 3 => .rr
  | 4 => .sla
  | 5 => .sra
  | 6 => .swap
  | _ => .srl

/-- The 3-bit literal of field `y`: a bit index or a vector number (R108). -/
def literalOfY (y : Nat) : Fin 8 := Fin.ofNat 8 y

/-! ## The direct table (30_encoding.md R114) -/

/-- `x = 0`. -/
def decodeX0 (y z : Nat) (n : Byte) (nn : Word) : Instr :=
  match z with
  | 0 =>
    match y with
    | 0 => .nop
    | 1 => .ld_mnn_SP nn
    | 2 => .stop
    | 3 => .jr_e n
    | y => .jrCond (condOfY y) n
  | 1 => if y % 2 = 0 then .ldPairNN (pairOfY y) nn else .addHL (pairOfY y)
  | 2 =>
    match y with
    | 0 => .ld_mBC_A
    | 1 => .ld_A_mBC
    | 2 => .ld_mDE_A
    | 3 => .ld_A_mDE
    | 4 => .ld_mHLi_A
    | 5 => .ld_A_mHLi
    | 6 => .ld_mHLd_A
    | _ => .ld_A_mHLd
  | 3 => if y % 2 = 0 then .incPair (pairOfY y) else .decPair (pairOfY y)
  | 4 =>
    match operand8 y with
    | .reg r => .incR r
    | .atHL => .inc_mHL
  | 5 =>
    match operand8 y with
    | .reg r => .decR r
    | .atHL => .dec_mHL
  | 6 =>
    match operand8 y with
    | .reg r => .ldRN r n
    | .atHL => .ld_mHL_n n
  | _ =>
    match y with
    | 0 => .rlca
    | 1 => .rrca
    | 2 => .rla
    | 3 => .rra
    | 4 => .daa
    | 5 => .cpl
    | 6 => .scf
    | _ => .ccf

/-- `x = 1`: the register loads, with HALT in the slot `y = z = 6`. -/
def decodeX1 (y z : Nat) : Instr :=
  match operand8 y, operand8 z with
  | .reg r, .reg r' => .ldRR r r'
  | .reg r, .atHL => .ldRM r
  | .atHL, .reg r => .ldMR r
  | .atHL, .atHL => .halt

/-- `x = 2`: the accumulator operations. -/
def decodeX2 (y z : Nat) : Instr :=
  match operand8 z with
  | .reg r => .aluR (aluOfY y) r
  | .atHL => .aluM (aluOfY y)

/-- `x = 3`. The escape byte (z = 3, y = 1) is not decided here. -/
def decodeX3 (y z : Nat) (n : Byte) (nn : Word) : Instr :=
  match z with
  | 0 =>
    match y with
    | 4 => .ldh_mn_A n
    | 5 => .add_SP_e n
    | 6 => .ldh_A_mn n
    | 7 => .ld_HL_SPe n
    | y => .retCond (condOfY y)
  | 1 =>
    match y with
    | 1 => .ret
    | 3 => .reti
    | 5 => .jp_HL
    | 7 => .ld_SP_HL
    | y => .popPair (stackPairOfY y)
  | 2 =>
    match y with
    | 4 => .ld_mC_A
    | 5 => .ld_mnn_A nn
    | 6 => .ld_A_mC
    | 7 => .ld_A_mnn nn
    | y => .jpCond (condOfY y) nn
  | 3 =>
    match y with
    | 0 => .jp_nn nn
    | 1 => .escape n
    | 2 => .illegal_D3
    | 3 => .illegal_DB
    | 4 => .illegal_E3
    | 5 => .illegal_EB
    | 6 => .di
    | _ => .ei
  | 4 =>
    match y with
    | 4 => .illegal_E4
    | 5 => .illegal_EC
    | 6 => .illegal_F4
    | 7 => .illegal_FC
    | y => .callCond (condOfY y) nn
  | 5 =>
    match y with
    | 1 => .call_nn nn
    | 3 => .illegal_DD
    | 5 => .illegal_ED
    | 7 => .illegal_FD
    | y => .pushPair (stackPairOfY y)
  | 6 => .aluN (aluOfY y) n
  | _ => .rst (literalOfY y)

/-! ## The prefixed table (30_encoding.md R115) -/

/-- The instruction the byte after the escape selects. -/
def decodePrefixed (op2 : Byte) : Instr :=
  match fieldX op2, operand8 (fieldZ op2) with
  | 0, .reg r => .rotR (rotOfY (fieldY op2)) r
  | 0, .atHL => .rotM (rotOfY (fieldY op2))
  | 1, .reg r => .bitR (literalOfY (fieldY op2)) r
  | 1, .atHL => .bit_b_mHL (literalOfY (fieldY op2))
  | 2, .reg r => .resR (literalOfY (fieldY op2)) r
  | 2, .atHL => .res_b_mHL (literalOfY (fieldY op2))
  | _, .reg r => .setR (literalOfY (fieldY op2)) r
  | _, .atHL => .set_b_mHL (literalOfY (fieldY op2))

/-- The instruction whose bytes, in address order, begin with these three. An instruction of fewer bytes ignores
the later ones. Total: every byte value is a row of the table (30_encoding.md R102, R114, R115). -/
def decodeBytes (b0 b1 b2 : Byte) : Instr :=
  if b0 = Config.escapeByte then decodePrefixed b1
  else
    match fieldX b0 with
    | 0 => decodeX0 (fieldY b0) (fieldZ b0) b1 (wordOf b2 b1)
    | 1 => decodeX1 (fieldY b0) (fieldZ b0)
    | 2 => decodeX2 (fieldY b0) (fieldZ b0)
    | _ => decodeX3 (fieldY b0) (fieldZ b0) b1 (wordOf b2 b1)

/-! ## Lengths and the decoder on byte lists -/

/-- The opcodes of the 3-byte instructions (30_encoding.md R111). -/
def threeByteOpcodes : List Byte :=
  [0x01#8, 0x11#8, 0x21#8, 0x31#8, 0x08#8, 0xC3#8, 0xC2#8, 0xCA#8, 0xD2#8, 0xDA#8,
   0xCD#8, 0xC4#8, 0xCC#8, 0xD4#8, 0xDC#8, 0xEA#8, 0xFA#8]

/-- The opcodes of the 2-byte instructions, the escape byte among them (30_encoding.md R111). -/
def twoByteOpcodes : List Byte :=
  [0xCB#8, 0x06#8, 0x0E#8, 0x16#8, 0x1E#8, 0x26#8, 0x2E#8, 0x36#8, 0x3E#8, 0x18#8, 0x20#8, 0x28#8, 0x30#8, 0x38#8,
   0xC6#8, 0xCE#8, 0xD6#8, 0xDE#8, 0xE6#8, 0xEE#8, 0xF6#8, 0xFE#8, 0xE0#8, 0xF0#8, 0xE8#8, 0xF8#8]

/-- How many bytes the first byte says the instruction has (30_encoding.md R102, R111). STOP counts one byte: its
format is OP "whatever the following byte is" (47_system.md R313; log entry 11). -/
def instrLength (op : Byte) : Nat :=
  if op ∈ threeByteOpcodes then 3 else if op ∈ twoByteOpcodes then 2 else 1

/-- Why a byte list holds no instruction. -/
inductive DecodeError where
  | /-- The list is empty. -/ noBytes
  | /-- The list ends inside the instruction its first byte begins. -/ truncated
  deriving DecidableEq, Repr

/-- The first instruction of a list of bytes, and the bytes after it. -/
def decode : List Byte → Except DecodeError (Instr × List Byte)
  | [] => .error .noBytes
  | b0 :: rest =>
    match instrLength b0, rest with
    | 1, rest => .ok (decodeBytes b0 0#8 0#8, rest)
    | 2, b1 :: rest => .ok (decodeBytes b0 b1 0#8, rest)
    | 3, b1 :: b2 :: rest => .ok (decodeBytes b0 b1 b2, rest)
    | _, _ => .error .truncated

/-- The bytes, in address order, of an instruction that the opcode table gives as the number `w` of `nbits` bits,
with zero bytes after them up to three, the longest instruction. The table numbers a prefixed row with byte 0 in
the HIGH half (30_encoding.md: "match 0xCBxx ... byte 0 in the high half"); any other number has its first byte in
its low bits. DEDUCED (log entry 8). -/
def tableBytes (nbits w : Nat) : Byte × Byte × Byte :=
  if nbits = 16 ∧ w / 256 = 0xCB then (0xCB#8, BitVec.ofNat 8 w, 0#8)
  else (BitVec.ofNat 8 w, BitVec.ofNat 8 (w / 256), BitVec.ofNat 8 (w / 65536))

/-- The instruction the decoder reads from an instruction given as the opcode table's number. -/
def decodeTableWord (nbits w : Nat) : Option Instr :=
  match tableBytes nbits w with
  | (b0, b1, b2) =>
    match decode [b0, b1, b2] with
    | .ok (i, _) => some i
    | .error _ => none

/-! ## The encoder -/

/-- The second byte of BIT, RES and SET: quadrant, bit index and register code (45_rotate_shift_bit.md R280 to R285). -/
def bitOpcode (base : Byte) (b : Fin 8) : Byte := base + BitVec.ofNat 8 (8 * b.val)

/-- The bytes of an instruction in address order: the opcode of its row of spec/opcode_table.json, then its
operand bytes, low byte first (30_encoding.md R100, R113). -/
def encode : Instr → List Byte
  | .nop => [0x00#8]
  | .ld_BC_nn nn => [0x01#8, loByte nn, hiByte nn]
  | .ld_mBC_A => [0x02#8]
  | .inc_BC => [0x03#8]
  | .inc_B => [0x04#8]
  | .dec_B => [0x05#8]
  | .ld_B_n n => [0x06#8, n]
  | .rlca => [0x07#8]
  | .ld_mnn_SP nn => [0x08#8, loByte nn, hiByte nn]
  | .add_HL_BC => [0x09#8]
  | .ld_A_mBC => [0x0A#8]
  | .dec_BC => [0x0B#8]
  | .inc_C => [0x0C#8]
  | .dec_C => [0x0D#8]
  | .ld_C_n n => [0x0E#8, n]
  | .rrca => [0x0F#8]
  | .stop => [0x10#8]
  | .ld_DE_nn nn => [0x11#8, loByte nn, hiByte nn]
  | .ld_mDE_A => [0x12#8]
  | .inc_DE => [0x13#8]
  | .inc_D => [0x14#8]
  | .dec_D => [0x15#8]
  | .ld_D_n n => [0x16#8, n]
  | .rla => [0x17#8]
  | .jr_e e => [0x18#8, e]
  | .add_HL_DE => [0x19#8]
  | .ld_A_mDE => [0x1A#8]
  | .dec_DE => [0x1B#8]
  | .inc_E => [0x1C#8]
  | .dec_E => [0x1D#8]
  | .ld_E_n n => [0x1E#8, n]
  | .rra => [0x1F#8]
  | .jr_NZ_e e => [0x20#8, e]
  | .ld_HL_nn nn => [0x21#8, loByte nn, hiByte nn]
  | .ld_mHLi_A => [0x22#8]
  | .inc_HL => [0x23#8]
  | .inc_H => [0x24#8]
  | .dec_H => [0x25#8]
  | .ld_H_n n => [0x26#8, n]
  | .daa => [0x27#8]
  | .jr_Z_e e => [0x28#8, e]
  | .add_HL_HL => [0x29#8]
  | .ld_A_mHLi => [0x2A#8]
  | .dec_HL => [0x2B#8]
  | .inc_L => [0x2C#8]
  | .dec_L => [0x2D#8]
  | .ld_L_n n => [0x2E#8, n]
  | .cpl => [0x2F#8]
  | .jr_NC_e e => [0x30#8, e]
  | .ld_SP_nn nn => [0x31#8, loByte nn, hiByte nn]
  | .ld_mHLd_A => [0x32#8]
  | .inc_SP => [0x33#8]
  | .inc_mHL => [0x34#8]
  | .dec_mHL => [0x35#8]
  | .ld_mHL_n n => [0x36#8, n]
  | .scf => [0x37#8]
  | .jr_C_e e => [0x38#8, e]
  | .add_HL_SP => [0x39#8]
  | .ld_A_mHLd => [0x3A#8]
  | .dec_SP => [0x3B#8]
  | .inc_A => [0x3C#8]
  | .dec_A => [0x3D#8]
  | .ld_A_n n => [0x3E#8, n]
  | .ccf => [0x3F#8]
  | .ld_B_B => [0x40#8]
  | .ld_B_C => [0x41#8]
  | .ld_B_D => [0x42#8]
  | .ld_B_E => [0x43#8]
  | .ld_B_H => [0x44#8]
  | .ld_B_L => [0x45#8]
  | .ld_B_mHL => [0x46#8]
  | .ld_B_A => [0x47#8]
  | .ld_C_B => [0x48#8]
  | .ld_C_C => [0x49#8]
  | .ld_C_D => [0x4A#8]
  | .ld_C_E => [0x4B#8]
  | .ld_C_H => [0x4C#8]
  | .ld_C_L => [0x4D#8]
  | .ld_C_mHL => [0x4E#8]
  | .ld_C_A => [0x4F#8]
  | .ld_D_B => [0x50#8]
  | .ld_D_C => [0x51#8]
  | .ld_D_D => [0x52#8]
  | .ld_D_E => [0x53#8]
  | .ld_D_H => [0x54#8]
  | .ld_D_L => [0x55#8]
  | .ld_D_mHL => [0x56#8]
  | .ld_D_A => [0x57#8]
  | .ld_E_B => [0x58#8]
  | .ld_E_C => [0x59#8]
  | .ld_E_D => [0x5A#8]
  | .ld_E_E => [0x5B#8]
  | .ld_E_H => [0x5C#8]
  | .ld_E_L => [0x5D#8]
  | .ld_E_mHL => [0x5E#8]
  | .ld_E_A => [0x5F#8]
  | .ld_H_B => [0x60#8]
  | .ld_H_C => [0x61#8]
  | .ld_H_D => [0x62#8]
  | .ld_H_E => [0x63#8]
  | .ld_H_H => [0x64#8]
  | .ld_H_L => [0x65#8]
  | .ld_H_mHL => [0x66#8]
  | .ld_H_A => [0x67#8]
  | .ld_L_B => [0x68#8]
  | .ld_L_C => [0x69#8]
  | .ld_L_D => [0x6A#8]
  | .ld_L_E => [0x6B#8]
  | .ld_L_H => [0x6C#8]
  | .ld_L_L => [0x6D#8]
  | .ld_L_mHL => [0x6E#8]
  | .ld_L_A => [0x6F#8]
  | .ld_mHL_B => [0x70#8]
  | .ld_mHL_C => [0x71#8]
  | .ld_mHL_D => [0x72#8]
  | .ld_mHL_E => [0x73#8]
  | .ld_mHL_H => [0x74#8]
  | .ld_mHL_L => [0x75#8]
  | .halt => [0x76#8]
  | .ld_mHL_A => [0x77#8]
  | .ld_A_B => [0x78#8]
  | .ld_A_C => [0x79#8]
  | .ld_A_D => [0x7A#8]
  | .ld_A_E => [0x7B#8]
  | .ld_A_H => [0x7C#8]
  | .ld_A_L => [0x7D#8]
  | .ld_A_mHL => [0x7E#8]
  | .ld_A_A => [0x7F#8]
  | .add_A_B => [0x80#8]
  | .add_A_C => [0x81#8]
  | .add_A_D => [0x82#8]
  | .add_A_E => [0x83#8]
  | .add_A_H => [0x84#8]
  | .add_A_L => [0x85#8]
  | .add_A_mHL => [0x86#8]
  | .add_A_A => [0x87#8]
  | .adc_A_B => [0x88#8]
  | .adc_A_C => [0x89#8]
  | .adc_A_D => [0x8A#8]
  | .adc_A_E => [0x8B#8]
  | .adc_A_H => [0x8C#8]
  | .adc_A_L => [0x8D#8]
  | .adc_A_mHL => [0x8E#8]
  | .adc_A_A => [0x8F#8]
  | .sub_B => [0x90#8]
  | .sub_C => [0x91#8]
  | .sub_D => [0x92#8]
  | .sub_E => [0x93#8]
  | .sub_H => [0x94#8]
  | .sub_L => [0x95#8]
  | .sub_mHL => [0x96#8]
  | .sub_A => [0x97#8]
  | .sbc_A_B => [0x98#8]
  | .sbc_A_C => [0x99#8]
  | .sbc_A_D => [0x9A#8]
  | .sbc_A_E => [0x9B#8]
  | .sbc_A_H => [0x9C#8]
  | .sbc_A_L => [0x9D#8]
  | .sbc_A_mHL => [0x9E#8]
  | .sbc_A_A => [0x9F#8]
  | .and_B => [0xA0#8]
  | .and_C => [0xA1#8]
  | .and_D => [0xA2#8]
  | .and_E => [0xA3#8]
  | .and_H => [0xA4#8]
  | .and_L => [0xA5#8]
  | .and_mHL => [0xA6#8]
  | .and_A => [0xA7#8]
  | .xor_B => [0xA8#8]
  | .xor_C => [0xA9#8]
  | .xor_D => [0xAA#8]
  | .xor_E => [0xAB#8]
  | .xor_H => [0xAC#8]
  | .xor_L => [0xAD#8]
  | .xor_mHL => [0xAE#8]
  | .xor_A => [0xAF#8]
  | .or_B => [0xB0#8]
  | .or_C => [0xB1#8]
  | .or_D => [0xB2#8]
  | .or_E => [0xB3#8]
  | .or_H => [0xB4#8]
  | .or_L => [0xB5#8]
  | .or_mHL => [0xB6#8]
  | .or_A => [0xB7#8]
  | .cp_B => [0xB8#8]
  | .cp_C => [0xB9#8]
  | .cp_D => [0xBA#8]
  | .cp_E => [0xBB#8]
  | .cp_H => [0xBC#8]
  | .cp_L => [0xBD#8]
  | .cp_mHL => [0xBE#8]
  | .cp_A => [0xBF#8]
  | .ret_NZ => [0xC0#8]
  | .pop_BC => [0xC1#8]
  | .jp_NZ_nn nn => [0xC2#8, loByte nn, hiByte nn]
  | .jp_nn nn => [0xC3#8, loByte nn, hiByte nn]
  | .call_NZ_nn nn => [0xC4#8, loByte nn, hiByte nn]
  | .push_BC => [0xC5#8]
  | .add_A_n n => [0xC6#8, n]
  | .rst_00 => [0xC7#8]
  | .ret_Z => [0xC8#8]
  | .ret => [0xC9#8]
  | .jp_Z_nn nn => [0xCA#8, loByte nn, hiByte nn]
  | .escape op2 => [0xCB#8, op2]
  | .call_Z_nn nn => [0xCC#8, loByte nn, hiByte nn]
  | .call_nn nn => [0xCD#8, loByte nn, hiByte nn]
  | .adc_A_n n => [0xCE#8, n]
  | .rst_08 => [0xCF#8]
  | .ret_NC => [0xD0#8]
  | .pop_DE => [0xD1#8]
  | .jp_NC_nn nn => [0xD2#8, loByte nn, hiByte nn]
  | .illegal_D3 => [0xD3#8]
  | .call_NC_nn nn => [0xD4#8, loByte nn, hiByte nn]
  | .push_DE => [0xD5#8]
  | .sub_n n => [0xD6#8, n]
  | .rst_10 => [0xD7#8]
  | .ret_C => [0xD8#8]
  | .reti => [0xD9#8]
  | .jp_C_nn nn => [0xDA#8, loByte nn, hiByte nn]
  | .illegal_DB => [0xDB#8]
  | .call_C_nn nn => [0xDC#8, loByte nn, hiByte nn]
  | .illegal_DD => [0xDD#8]
  | .sbc_A_n n => [0xDE#8, n]
  | .rst_18 => [0xDF#8]
  | .ldh_mn_A n => [0xE0#8, n]
  | .pop_HL => [0xE1#8]
  | .ld_mC_A => [0xE2#8]
  | .illegal_E3 => [0xE3#8]
  | .illegal_E4 => [0xE4#8]
  | .push_HL => [0xE5#8]
  | .and_n n => [0xE6#8, n]
  | .rst_20 => [0xE7#8]
  | .add_SP_e e => [0xE8#8, e]
  | .jp_HL => [0xE9#8]
  | .ld_mnn_A nn => [0xEA#8, loByte nn, hiByte nn]
  | .illegal_EB => [0xEB#8]
  | .illegal_EC => [0xEC#8]
  | .illegal_ED => [0xED#8]
  | .xor_n n => [0xEE#8, n]
  | .rst_28 => [0xEF#8]
  | .ldh_A_mn n => [0xF0#8, n]
  | .pop_AF => [0xF1#8]
  | .ld_A_mC => [0xF2#8]
  | .di => [0xF3#8]
  | .illegal_F4 => [0xF4#8]
  | .push_AF => [0xF5#8]
  | .or_n n => [0xF6#8, n]
  | .rst_30 => [0xF7#8]
  | .ld_HL_SPe e => [0xF8#8, e]
  | .ld_SP_HL => [0xF9#8]
  | .ld_A_mnn nn => [0xFA#8, loByte nn, hiByte nn]
  | .ei => [0xFB#8]
  | .illegal_FC => [0xFC#8]
  | .illegal_FD => [0xFD#8]
  | .cp_n n => [0xFE#8, n]
  | .rst_38 => [0xFF#8]
  | .rlc_B => [0xCB#8, 0x00#8]
  | .rlc_C => [0xCB#8, 0x01#8]
  | .rlc_D => [0xCB#8, 0x02#8]
  | .rlc_E => [0xCB#8, 0x03#8]
  | .rlc_H => [0xCB#8, 0x04#8]
  | .rlc_L => [0xCB#8, 0x05#8]
  | .rlc_mHL => [0xCB#8, 0x06#8]
  | .rlc_A => [0xCB#8, 0x07#8]
  | .rrc_B => [0xCB#8, 0x08#8]
  | .rrc_C => [0xCB#8, 0x09#8]
  | .rrc_D => [0xCB#8, 0x0A#8]
  | .rrc_E => [0xCB#8, 0x0B#8]
  | .rrc_H => [0xCB#8, 0x0C#8]
  | .rrc_L => [0xCB#8, 0x0D#8]
  | .rrc_mHL => [0xCB#8, 0x0E#8]
  | .rrc_A => [0xCB#8, 0x0F#8]
  | .rl_B => [0xCB#8, 0x10#8]
  | .rl_C => [0xCB#8, 0x11#8]
  | .rl_D => [0xCB#8, 0x12#8]
  | .rl_E => [0xCB#8, 0x13#8]
  | .rl_H => [0xCB#8, 0x14#8]
  | .rl_L => [0xCB#8, 0x15#8]
  | .rl_mHL => [0xCB#8, 0x16#8]
  | .rl_A => [0xCB#8, 0x17#8]
  | .rr_B => [0xCB#8, 0x18#8]
  | .rr_C => [0xCB#8, 0x19#8]
  | .rr_D => [0xCB#8, 0x1A#8]
  | .rr_E => [0xCB#8, 0x1B#8]
  | .rr_H => [0xCB#8, 0x1C#8]
  | .rr_L => [0xCB#8, 0x1D#8]
  | .rr_mHL => [0xCB#8, 0x1E#8]
  | .rr_A => [0xCB#8, 0x1F#8]
  | .sla_B => [0xCB#8, 0x20#8]
  | .sla_C => [0xCB#8, 0x21#8]
  | .sla_D => [0xCB#8, 0x22#8]
  | .sla_E => [0xCB#8, 0x23#8]
  | .sla_H => [0xCB#8, 0x24#8]
  | .sla_L => [0xCB#8, 0x25#8]
  | .sla_mHL => [0xCB#8, 0x26#8]
  | .sla_A => [0xCB#8, 0x27#8]
  | .sra_B => [0xCB#8, 0x28#8]
  | .sra_C => [0xCB#8, 0x29#8]
  | .sra_D => [0xCB#8, 0x2A#8]
  | .sra_E => [0xCB#8, 0x2B#8]
  | .sra_H => [0xCB#8, 0x2C#8]
  | .sra_L => [0xCB#8, 0x2D#8]
  | .sra_mHL => [0xCB#8, 0x2E#8]
  | .sra_A => [0xCB#8, 0x2F#8]
  | .swap_B => [0xCB#8, 0x30#8]
  | .swap_C => [0xCB#8, 0x31#8]
  | .swap_D => [0xCB#8, 0x32#8]
  | .swap_E => [0xCB#8, 0x33#8]
  | .swap_H => [0xCB#8, 0x34#8]
  | .swap_L => [0xCB#8, 0x35#8]
  | .swap_mHL => [0xCB#8, 0x36#8]
  | .swap_A => [0xCB#8, 0x37#8]
  | .srl_B => [0xCB#8, 0x38#8]
  | .srl_C => [0xCB#8, 0x39#8]
  | .srl_D => [0xCB#8, 0x3A#8]
  | .srl_E => [0xCB#8, 0x3B#8]
  | .srl_H => [0xCB#8, 0x3C#8]
  | .srl_L => [0xCB#8, 0x3D#8]
  | .srl_mHL => [0xCB#8, 0x3E#8]
  | .srl_A => [0xCB#8, 0x3F#8]
  | .bit_b_B b => [0xCB#8, bitOpcode 0x40#8 b]
  | .bit_b_C b => [0xCB#8, bitOpcode 0x41#8 b]
  | .bit_b_D b => [0xCB#8, bitOpcode 0x42#8 b]
  | .bit_b_E b => [0xCB#8, bitOpcode 0x43#8 b]
  | .bit_b_H b => [0xCB#8, bitOpcode 0x44#8 b]
  | .bit_b_L b => [0xCB#8, bitOpcode 0x45#8 b]
  | .bit_b_mHL b => [0xCB#8, bitOpcode 0x46#8 b]
  | .bit_b_A b => [0xCB#8, bitOpcode 0x47#8 b]
  | .res_b_B b => [0xCB#8, bitOpcode 0x80#8 b]
  | .res_b_C b => [0xCB#8, bitOpcode 0x81#8 b]
  | .res_b_D b => [0xCB#8, bitOpcode 0x82#8 b]
  | .res_b_E b => [0xCB#8, bitOpcode 0x83#8 b]
  | .res_b_H b => [0xCB#8, bitOpcode 0x84#8 b]
  | .res_b_L b => [0xCB#8, bitOpcode 0x85#8 b]
  | .res_b_mHL b => [0xCB#8, bitOpcode 0x86#8 b]
  | .res_b_A b => [0xCB#8, bitOpcode 0x87#8 b]
  | .set_b_B b => [0xCB#8, bitOpcode 0xC0#8 b]
  | .set_b_C b => [0xCB#8, bitOpcode 0xC1#8 b]
  | .set_b_D b => [0xCB#8, bitOpcode 0xC2#8 b]
  | .set_b_E b => [0xCB#8, bitOpcode 0xC3#8 b]
  | .set_b_H b => [0xCB#8, bitOpcode 0xC4#8 b]
  | .set_b_L b => [0xCB#8, bitOpcode 0xC5#8 b]
  | .set_b_mHL b => [0xCB#8, bitOpcode 0xC6#8 b]
  | .set_b_A b => [0xCB#8, bitOpcode 0xC7#8 b]

end Sys2Proof
end

