-- ==== Sys2Proof/Machine/State.lean ====
section
/-! DEFINITION. The machine's state as plain data: everything 10_state.md gives the machine, the bus's list of
attached components (20_memory.md R60) and the host's input stream (60_exceptions.md R404); the reasons a step can
stop; and the state after reset (10_state.md R50, 70_reset_and_hazards.md R441). -/

namespace Sys2Proof.Machine

open Sys2Proof

/-! ## CPU -/

/-- The register file (10_state.md R20). The pairs are views of it (R21). -/
structure Regs where
  a : Byte
  f : Byte
  b : Byte
  c : Byte
  d : Byte
  e : Byte
  h : Byte
  l : Byte
  deriving DecidableEq, Repr

/-- A scheduling marker: `Idle | ActiveAt(n)` (10_state.md R32, R39). -/
inductive Sched where
  | idle
  | activeAt (cycle : Nat)
  deriving DecidableEq, Repr

/-- The five interrupt kinds, in the order of their bits in IE and IF (10_state.md R31). -/
inductive Interrupt where
  | vBlank | lcdStat | timer | serial | joypad
  deriving DecidableEq, Repr

/-! ## Timer, LCD controller, OAM-DMA engine -/

/-- The timer (10_state.md R34): `main` is the 16-bit counter whose top byte is DIV. -/
structure Timer where
  main : Word
  tima : Byte
  tma : Byte
  tac : BitVec 3
  deriving DecidableEq, Repr

/-- `LcdImageLine` (49_lcd_dma.md R360): three bit vectors of equal length; bit x is pixel x, pixel 0 leftmost. -/
structure ImageLine (n : Nat) where
  msb : BitVec n
  lsb : BitVec n
  opacity : BitVec n
  deriving DecidableEq, Repr

/-- A line on which every pixel has color 0 and is transparent. -/
def ImageLine.blank (n : Nat) : ImageLine n := ⟨0#n, 0#n, 0#n⟩

/-- A line of the screen. -/
abbrev ScreenLine := ImageLine Config.lcdWidth

/-- A frame whose every pixel has color 0. -/
def blankFrame : List ScreenLine := List.replicate Config.lcdHeight (ImageLine.blank Config.lcdWidth)

/-- The LCD controller (10_state.md R35, R39): its twelve registers, the window flag and counter, the frame in
progress (144 lines; a line not yet composed is blank, 49_lcd_dma.md R358), the published frame, and its marker. -/
structure Lcd where
  lcdc : Byte
  stat : Byte
  scy : Byte
  scx : Byte
  ly : Byte
  lyc : Byte
  dmaReg : Byte
  bgp : Byte
  obp0 : Byte
  obp1 : Byte
  wy : Byte
  wx : Byte
  winActive : Bool
  winLine : Nat
  builder : List ScreenLine
  image : List ScreenLine
  next : Sched
  deriving DecidableEq, Repr

/-- "OAM-DMA progress (active flag, source page, bytes copied so far, 0–160)" (10_state.md R39). -/
structure Dma where
  active : Bool
  source : Word
  offset : Nat
  deriving DecidableEq, Repr

/-! ## Storage -/

/-- Stored bytes as key and byte pairs, keys strictly rising, none holding the byte an unlisted key reads as. -/
abbrev Memory := List Host.Cell

/-- What a byte that nothing has written reads as: 0x00, the reset contents of VRAM and OAM (10_state.md R50).
DESIGN CHOICE for the external components, whose contents the spec leaves to the launch (log entry 3; unsafe). -/
def Memory.fill : Byte := 0x00#8

/-- The canonical form of a memory. -/
abbrev Memory.wf (m : Memory) : Prop :=
  m.Pairwise (fun x y => x.1 < y.1) ∧ ∀ c ∈ m, c.2 ≠ Memory.fill

/-! ## The bus -/

/-- A component attached to the bus (20_memory.md R62, R73). The first five are the core's own. `ram`, `rom` and
`overlay` are external: they own the addresses `first` to `last` and store in bank `bank` of `mem`; a `ram` repeats
its storage every `size` bytes (0: it does not repeat), which is how an echo mirror answers; a `rom` ignores writes;
an `overlay` is a `rom` that answers "while enabled" only (20_memory.md R72), `enabled` being its own state.
DESIGN CHOICE (log entries 2, 4 and 29). -/
inductive Component where
  | cpu
  | timer
  | lcd
  | vram
  | oam
  | ram (bank first last size : Nat)
  | rom (bank first last : Nat)
  | overlay (bank first last : Nat) (enabled : Bool)
  deriving DecidableEq, Repr

/-- The core's components (20_memory.md R73). -/
def coreComponents : List Component := [.cpu, .timer, .lcd, .vram, .oam]

/-- The default PLATFORM: the console's map (20_memory.md R72) with the boot ROM overlay, enabled, before a plain 32 KiB
cartridge ROM, then cartridge RAM, work RAM with its echo, and high RAM. DESIGN CHOICE (log entries 2 and 29; unsafe). -/
def consolePlatform : List Component :=
  coreComponents ++
    [.overlay 1 0x0000 0x00FF true, .rom 0 0x0000 0x7FFF, .ram 0 0xA000 0xBFFF 0, .ram 0 0xC000 0xFDFF 0x2000, .ram 0 0xFF80 0xFFFE 0]

/-- The test platform FLAT (20_memory.md R74): the core, then one RAM that owns every address. -/
def flatPlatform : List Component := coreComponents ++ [.ram 1 0x0000 0xFFFF 0]

/-! ## Host inputs -/

/-- What the host may do between two cycles that changes state (00_scope.md R9): the two external interrupt
requests, and a change of an external component: the byte stored under a key of `mem`, or whether the boot ROM
overlay answers (log entry 29). -/
inductive HostAction where
  | requestSerial
  | requestJoypad
  | setExternal (key : Nat) (v : Byte)
  | enableOverlay (enabled : Bool)
  deriving DecidableEq, Repr

/-! ## The state -/

/-- The whole machine. `hostInputs` holds the host's actions before each coming cycle, the next one first; once it is
empty the host does nothing (DESIGN CHOICE, log entry 5). -/
structure State where
  regs : Regs
  pc : Word
  sp : Word
  ime : Bool
  ie : Byte
  iflag : Byte
  cpuNext : Sched
  timer : Timer
  lcd : Lcd
  dma : Dma
  mem : Memory
  bus : List Component
  cycle : Nat
  hostInputs : List (List HostAction)
  deriving DecidableEq, Repr

/-- Why the machine stops (60_exceptions.md R401, R402). Safe: the spec itself stops the machine here. -/
inductive Fault where
  /-- `Fatal(IllegalOpcode, op, pc)`: raised by the meanings of the eleven undefined encodings (47_system.md R315).
  Safe: "fatal" is what the spec says. -/
  | illegalOpcode (op : Byte) (pc : Word)
  /-- `Fatal(Stop, 0x10, pc)`: raised by the meaning of STOP (47_system.md R313). Safe: as above. -/
  | stop (op : Byte) (pc : Word)
  deriving DecidableEq, Repr

/-- Why the model gives no next state though the machine does not stop. No step answers one. -/
inductive Refusal where
  /-- Raised by `exec` alone, for an instruction that has no meaning yet. Safe. No arm uses it. -/
  | notModelled (mnemonic : String)
  /-- Raised by `runUntil` alone: the host asked for a cycle already past (00_scope.md R9, 93 U5). Safe: the spec
  refuses the host's call and leaves the state unchanged. -/
  | timeTravel
  /-- Raised by `launch` alone: no component answers address 0x0000 (70_reset_and_hazards.md R442, 93 U6). Safe: the
  spec has the construction of the machine fail, so there is no machine state. -/
  | missingCollaborator
  deriving DecidableEq, Repr

/-- What a step or a meaning answers. -/
abbrev Result := Host.Outcome State Fault Refusal

/-! ## Reset -/

/-- The timer after reset (10_state.md R50). -/
def Timer.reset : Timer := ⟨0x0000#16, 0x00#8, 0x00#8, 0#3⟩

/-- The LCD controller after reset: off, every register zero, both frames blank (10_state.md R50). -/
def Lcd.reset : Lcd where
  lcdc := 0x00#8
  stat := 0x00#8
  scy := 0x00#8
  scx := 0x00#8
  ly := 0x00#8
  lyc := 0x00#8
  dmaReg := 0x00#8
  bgp := 0x00#8
  obp0 := 0x00#8
  obp1 := 0x00#8
  wy := 0x00#8
  wx := 0x00#8
  winActive := false
  winLine := 0
  builder := blankFrame
  image := blankFrame
  next := .idle

/-- The state after reset on a platform: `reset(platform)` of 70_reset_and_hazards.md R440, the external components
holding `contents` (R442). A run starts through `State.launch`, which checks both. -/
def State.resetOn (platform : List Component) (contents : Memory) : State where
  regs := ⟨0x00#8, 0x00#8, 0x00#8, 0x00#8, 0x00#8, 0x00#8, 0x00#8, 0x00#8⟩
  pc := 0x0000#16
  sp := 0x0000#16
  ime := false
  ie := 0x00#8
  iflag := 0x00#8
  cpuNext := .activeAt 0
  timer := Timer.reset
  lcd := Lcd.reset
  dma := ⟨false, 0x0000#16, 0⟩
  mem := contents
  bus := platform
  cycle := 0
  hostInputs := []

/-- The machine right after reset (10_state.md R50, 70_reset_and_hazards.md R441), on the default platform with
nothing stored. -/
def State.reset : State := State.resetOn consolePlatform []

end Sys2Proof.Machine
end

