-- ==== Sys2Proof/Machine/Pixels.lean ====
section
/-! DEFINITION. The pixel data types (49_lcd_dma.md R360 to R364): bit vectors as `BitVec n`, bit i the element i;
image lines as three of them; the line builder; the frame's `get`. Lengths are in the types, so the library's
invalid-argument failures are not expressible (R361, 93 U4). -/

namespace Sys2Proof.Machine

open Sys2Proof

/-- A pixel of a line: its 2-bit color index and its `opaque` bit, "painted" (R360). -/
structure Pixel where
  color : BitVec 2
  painted : Bool
  deriving DecidableEq, Repr

/-! ## BitVector (R361) -/

namespace Bits

/-- The number whose bit i is `f i` for i below n. -/
def toNat (f : Nat → Bool) : Nat → Nat
  | 0 => 0
  | n + 1 => (f n).toNat * 2 ^ n + toNat f n

/-- The bit vector of length n whose bit i is `f i`. -/
def ofFn (n : Nat) (f : Nat → Bool) : BitVec n := BitVec.ofNat n (toNat f n)

/-- Bit i for an integer i: 0 outside the vector. -/
def getInt {n : Nat} (v : BitVec n) (i : Int) : Bool := decide (0 ≤ i) && v.getLsbD i.toNat

/-- `v.extractZeroExtended(s, M)`. -/
def extractZeroExtended {n : Nat} (v : BitVec n) (s : Int) (m : Nat) : BitVec m :=
  ofFn m fun i => getInt v (s + i)

/-- `v.extractWrapped(s, M)`. -/
def extractWrapped {n : Nat} (v : BitVec n) (s : Int) (m : Nat) : BitVec m :=
  ofFn m fun i => v.getLsbD ((s + i) % n).toNat

/-- `v.shift(d)`: d > 0 moves bits toward higher indices. -/
def shift {n : Nat} (v : BitVec n) (d : Int) : BitVec n :=
  ofFn n fun i => getInt v (i - d)

end Bits

/-! ## Image lines (R360, R362) -/

namespace ImageLine

/-- The color of pixel x, `(msb_bit << 1) | lsb_bit`. -/
def color {n : Nat} (a : ImageLine n) (x : Nat) : BitVec 2 :=
  BitVec.ofBool (a.msb.getLsbD x) ++ BitVec.ofBool (a.lsb.getLsbD x)

/-- Whether pixel x is painted. -/
def isOpaque {n : Nat} (a : ImageLine n) (x : Nat) : Bool := a.opacity.getLsbD x

/-- The line whose pixel x is `f x`. -/
def ofPixels (n : Nat) (f : Nat → Pixel) : ImageLine n where
  msb := Bits.ofFn n fun x => (f x).color.getLsbD 1
  lsb := Bits.ofFn n fun x => (f x).color.getLsbD 0
  opacity := Bits.ofFn n fun x => (f x).painted

/-- `a` where the mask is 0 and `b` where it is 1, in one plane. -/
def selectBits {n : Nat} (mask a b : BitVec n) : BitVec n := (mask &&& b) ||| (~~~mask &&& a)

/-- `a.below(b, mask)` (R362). -/
def belowMask {n : Nat} (a b : ImageLine n) (mask : BitVec n) : ImageLine n where
  msb := selectBits mask a.msb b.msb
  lsb := selectBits mask a.lsb b.lsb
  opacity := a.opacity ||| mask

/-- `a.below(b)`: b on top where it is opaque (R362). -/
def below {n : Nat} (a b : ImageLine n) : ImageLine n := a.belowMask b b.opacity

/-- The plane whose bits below k are 1. -/
def lowMask (n k : Nat) : BitVec n := Bits.ofFn n fun x => decide (x < k)

/-- `a.join(b, k)`: a left of column k, b from it on (R362). -/
def join {n : Nat} (a b : ImageLine n) (k : Nat) : ImageLine n where
  msb := selectBits (lowMask n k) b.msb a.msb
  lsb := selectBits (lowMask n k) b.lsb a.lsb
  opacity := selectBits (lowMask n k) b.opacity a.opacity

/-- `(p >> (2 * i)) & 3`: the palette's color for index i (R375). -/
def paletteColor (p : Byte) (i : BitVec 2) : BitVec 2 := (p >>> (2 * i.toNat)).truncate 2

/-- `a.mapColors(p)`: opacity is unchanged (R362). -/
def mapColors {n : Nat} (a : ImageLine n) (p : Byte) : ImageLine n where
  msb := Bits.ofFn n fun x => (paletteColor p (a.color x)).getLsbD 1
  lsb := Bits.ofFn n fun x => (paletteColor p (a.color x)).getLsbD 0
  opacity := a.opacity

/-- `a.shift(d)` (R362). -/
def shift {n : Nat} (a : ImageLine n) (d : Int) : ImageLine n :=
  ⟨Bits.shift a.msb d, Bits.shift a.lsb d, Bits.shift a.opacity d⟩

/-- `a.extractWrapped(s, M)` (R362). -/
def extractWrapped {n : Nat} (a : ImageLine n) (s : Int) (m : Nat) : ImageLine m :=
  ⟨Bits.extractWrapped a.msb s m, Bits.extractWrapped a.lsb s m, Bits.extractWrapped a.opacity s m⟩

end ImageLine

/-! ## The line builder (R363) -/

/-- `LcdImageLine.Builder` for a line of n pixels: the two planes so far. -/
structure LineBuilder (n : Nat) where
  msb : BitVec n
  lsb : BitVec n
  deriving DecidableEq, Repr

namespace LineBuilder

/-- A builder starts with every plane zero. -/
def empty (n : Nat) : LineBuilder n := ⟨0#n, 0#n⟩

/-- One plane with its byte k replaced: bit j of the byte goes to pixel 8 k + j. -/
def setPlaneByte {n : Nat} (v : BitVec n) (k : Nat) (b : Byte) : BitVec n :=
  Bits.ofFn n fun x => if x / 8 = k then b.getLsbD (x % 8) else v.getLsbD x

/-- `setBytes(k, m, l)`. -/
def setBytes {n : Nat} (d : LineBuilder n) (k : Nat) (m l : Byte) : LineBuilder n :=
  ⟨setPlaneByte d.msb k m, setPlaneByte d.lsb k l⟩

/-- `build()`: a pixel is opaque iff its color index is not 0. -/
def build {n : Nat} (d : LineBuilder n) : ImageLine n := ⟨d.msb, d.lsb, d.msb ||| d.lsb⟩

end LineBuilder

/-- The byte of a line's high color bits at pixels 8 k to 8 k + 7: reading back what `setBytes` wrote. -/
def ImageLine.msbByte {n : Nat} (a : ImageLine n) (k : Nat) : Byte :=
  Bits.ofFn 8 fun j => (a.color (8 * k + j)).getLsbD 1

/-- The byte of a line's low color bits at pixels 8 k to 8 k + 7. -/
def ImageLine.lsbByte {n : Nat} (a : ImageLine n) (k : Nat) : Byte :=
  Bits.ofFn 8 fun j => (a.color (8 * k + j)).getLsbD 0

/-! ## Frames (R364) -/

/-- `image.get(x, y)`: none when x or y is out of range, a failure of the host's call (93 U4). -/
def imageGet (image : List ScreenLine) (x y : Nat) : Option (BitVec 2) :=
  if x < Config.lcdWidth then (image[y]?).map (·.color x) else none

end Sys2Proof.Machine
end

