-- ==== Sys2Proof/Machine/Compose.lean ====
section
/-! DEFINITION. The pixel-line composer (49_lcd_dma.md R366 to R377, block D19). `read` is the bus as it is at the
instant of the composition (R357, R377). Addresses wrap mod 65536 (00_scope.md R13). -/

namespace Sys2Proof.Machine

open Sys2Proof

namespace Compose

/-! ## Tiles and maps (R366, R367) -/

/-- `tileAddr(t, src)`. -/
def tileAddr (t : Byte) (unsignedTiles : Bool) : Word :=
  if unsignedTiles then 0x8000#16 + 16#16 * t.zeroExtend 16
  else 0x8800#16 + 16#16 * (t + 0x80#8).zeroExtend 16

/-- `tilePixel(base, row, col)`. -/
def tilePixel (read : Word → Byte) (base : Word) (row col : Nat) : BitVec 2 :=
  let lo := read (base + BitVec.ofNat 16 (2 * row))
  let hi := read (base + BitVec.ofNat 16 (2 * row + 1))
  BitVec.ofBool (hi.getLsbD (7 - col)) ++ BitVec.ofBool (lo.getLsbD (7 - col))

/-- `planePixel(map, px, py)`. -/
def planePixel (read : Word → Byte) (unsignedTiles : Bool) (map : Word) (px py : Nat) : BitVec 2 :=
  let t := read (map + BitVec.ofNat 16 (32 * (py / 8) + px / 8))
  tilePixel read (tileAddr t unsignedTiles) (py % 8) (px % 8)

/-- The tile map a select bit of LCDC chooses (R367). -/
def tileMap (select : Bool) : Word := if select then 0x9C00#16 else 0x9800#16

/-- A background or window pixel of index i: the color through BGP, opaque iff i is not 0 (R368, R373). -/
def bgpPixel (bgp : Byte) (i : BitVec 2) : Pixel := ⟨ImageLine.paletteColor bgp i, i != 0#2⟩

/-! ## Background (R368) -/

/-- Pixel x of the background line. -/
def backgroundPixel (read : Word → Byte) (l : Lcd) (x : Nat) : Pixel :=
  if l.lcdc.getLsbD 0 then
    bgpPixel l.bgp (planePixel read (l.lcdc.getLsbD 4) (tileMap (l.lcdc.getLsbD 3))
      ((x + l.scx.toNat) % 256) ((l.ly.toNat + l.scy.toNat) % 256))
  else ⟨0#2, false⟩

/-! ## Sprites (R369 to R371) -/

/-- An OAM entry (R369). -/
structure Sprite where
  y : Byte
  x : Byte
  tile : Byte
  attr : Byte
  deriving DecidableEq, Repr

/-- OAM entry i. -/
def sprite (read : Word → Byte) (i : Nat) : Sprite where
  y := read (BitVec.ofNat 16 (0xFE00 + 4 * i))
  x := read (BitVec.ofNat 16 (0xFE00 + 4 * i + 1))
  tile := read (BitVec.ofNat 16 (0xFE00 + 4 * i + 2))
  attr := read (BitVec.ofNat 16 (0xFE00 + 4 * i + 3))

/-- The sprite height, 8 or 16 (R369). -/
def spriteHeight (l : Lcd) : Nat := if l.lcdc.getLsbD 2 then 16 else 8

/-- `Y - 16 <= LY < Y - 16 + h`, on integers. -/
def onLine (l : Lcd) (sp : Sprite) : Bool :=
  decide (sp.y.toNat ≤ l.ly.toNat + 16) && decide (l.ly.toNat + 16 < sp.y.toNat + spriteHeight l)

/-- The first ten entries, in OAM order, that intersect the line; none with LCDC[1] = 0 (R369). -/
def selectSprites (read : Word → Byte) (l : Lcd) : List Sprite :=
  if l.lcdc.getLsbD 1 then (((List.range 40).map (sprite read)).filter (onLine l)).take 10 else []

/-- Insertion before the first sprite with a greater X, so that equal X keep their order. -/
def insertByX (sp : Sprite) : List Sprite → List Sprite
  | [] => [sp]
  | q :: qs => if sp.x.toNat < q.x.toNat then sp :: q :: qs else q :: insertByX sp qs

/-- The stable sort by X (R370): `selected` stands in OAM order. -/
def sortByX (selected : List Sprite) : List Sprite := selected.foldl (fun acc sp => insertByX sp acc) []

/-- The sprite's pixel at screen column x: none where it has no pixel or a pixel of index 0 (R371). -/
def spritePixel (read : Word → Byte) (l : Lcd) (x : Nat) (sp : Sprite) : Option Pixel :=
  if sp.x.toNat ≤ x + 8 ∧ x < sp.x.toNat then
    let h := spriteHeight l
    let row := l.ly.toNat + 16 - sp.y.toNat
    let row := if sp.attr.getLsbD 6 then h - 1 - row else row
    let t := if l.lcdc.getLsbD 2 then sp.tile &&& 0xFE#8 else sp.tile
    let k := x + 8 - sp.x.toNat
    let col := if sp.attr.getLsbD 5 then 7 - k else k
    let i := tilePixel read (0x8000#16 + 16#16 * t.zeroExtend 16) row col
    if i = 0#2 then none
    else some ⟨ImageLine.paletteColor (if sp.attr.getLsbD 4 then l.obp1 else l.obp0) i, true⟩
  else none

/-- Pixel x of a layer: the first sprite of the group, in priority order, that paints it (R371). -/
def layerPixel (read : Word → Byte) (l : Lcd) (group : List Sprite) (x : Nat) : Pixel :=
  (group.findSome? (spritePixel read l x)).getD ⟨0#2, false⟩

/-! ## Window (R372, R373) -/

/-- `win_active` as LCDC and WX give it (R372). -/
def windowActive (lcdc wx : Byte) : Bool :=
  lcdc.getLsbD 5 && decide (7 ≤ wx.toNat) && decide (wx.toNat ≤ 166)

/-- Whether the window is drawn on line LY (R373). -/
def windowDrawn (l : Lcd) : Bool := l.winActive && decide (l.wy.toNat ≤ l.ly.toNat)

/-- Pixel x of the window line, for x at or right of column WX - 7 (R373; log entry 15). -/
def windowPixel (read : Word → Byte) (l : Lcd) (x : Nat) : Pixel :=
  bgpPixel l.bgp (planePixel read (l.lcdc.getLsbD 4) (tileMap (l.lcdc.getLsbD 6)) (x + 7 - l.wx.toNat) l.winLine)

/-! ## The composition (R374) -/

/-- The composed line: `behind.below(bg, bg.opacity.or(behind.opacity.not()))`, then `.join(win, WX - 7)` when the
window is drawn, then `.below(front)`. -/
def line (read : Word → Byte) (l : Lcd) : ScreenLine :=
  let w := Config.lcdWidth
  let sorted := sortByX (selectSprites read l)
  let behind := ImageLine.ofPixels w (layerPixel read l (sorted.filter (·.attr.getLsbD 7)))
  let front := ImageLine.ofPixels w (layerPixel read l (sorted.filter (!·.attr.getLsbD 7)))
  let bg := ImageLine.ofPixels w (backgroundPixel read l)
  let under := behind.belowMask bg (bg.opacity ||| ~~~behind.opacity)
  let withWindow :=
    if windowDrawn l then under.join (ImageLine.ofPixels w (windowPixel read l)) (l.wx.toNat - 7) else under
  withWindow.below front

end Compose

end Sys2Proof.Machine
end

