-- ==== Sys2Proof/Machine/Interrupts.lean ====
section
/-! DEFINITION. The interrupt table (60_exceptions.md R405, R411). -/

namespace Sys2Proof.Machine

/-- The kind's index: its bit in IE and IF and its priority, 0 first (10_state.md R31). -/
def Interrupt.index : Interrupt → Nat
  | .vBlank => 0
  | .lcdStat => 1
  | .timer => 2
  | .serial => 3
  | .joypad => 4

/-- `1 << k`, the kind's bit in IE and IF. -/
def Interrupt.bit (k : Interrupt) : Byte := 1#8 <<< k.index

/-- `VEC(k) = 0x0040 + 8 k` (R405). -/
def Interrupt.vector (k : Interrupt) : Word := BitVec.ofNat 16 (0x40 + 8 * k.index)

/-- The pending set: `IE & IF & 0x1F` (10_state.md R30, 90_conflicts.md C5). -/
def pendingSet (ie iflag : Byte) : Byte := ie &&& iflag &&& 0x1F#8

/-- The pending kind with the least bit index (R406, R411). -/
def leastPending (p : Byte) : Option Interrupt :=
  if p.getLsbD 0 then some .vBlank
  else if p.getLsbD 1 then some .lcdStat
  else if p.getLsbD 2 then some .timer
  else if p.getLsbD 3 then some .serial
  else if p.getLsbD 4 then some .joypad
  else none

end Sys2Proof.Machine
end

