-- ==== Sys2Proof/Machine/LcdControl.lean ====
section
/-! DEFINITION. The LCD controller's registers and mode state machine, and the OAM-DMA engine's start
(49_lcd_dma.md R340 to R359, R381). A rule that may request interrupts answers the controller after it and the
bits of IF it sets; several requests of one rule are joined by or (log entry 17). -/

namespace Sys2Proof.Machine

open Sys2Proof

/-- The LCD controller's registers, in the order of their addresses (10_state.md R35). -/
inductive LcdReg where
  | lcdc | stat | scy | scx | ly | lyc | dma | bgp | obp0 | obp1 | wy | wx
  deriving DecidableEq, Repr

/-- The register at an address: twelve consecutive addresses starting at REG_LCDC (10_state.md R35). -/
def LcdReg.at? (a : Word) : Option LcdReg :=
  match (a - Config.regLcdc).toNat with
  | 0 => some .lcdc
  | 1 => some .stat
  | 2 => some .scy
  | 3 => some .scx
  | 4 => some .ly
  | 5 => some .lyc
  | 6 => some .dma
  | 7 => some .bgp
  | 8 => some .obp0
  | 9 => some .obp1
  | 10 => some .wy
  | 11 => some .wx
  | _ => none

namespace Lcd

/-! ## STAT (10_state.md R38) -/

/-- The current mode, `STAT[1:0]`. -/
def mode (l : Lcd) : BitVec 2 := l.stat.extractLsb' 0 2

/-- `STAT[1:0] <- m`. -/
def setModeBits (l : Lcd) (m : BitVec 2) : Lcd := { l with stat := (l.stat &&& 0xFC#8) ||| m.zeroExtend 8 }

/-- The bits `setMode(m)` requests (R351): LCD-STAT if the mode's enable bit is set, V-Blank for Mode 1. -/
def modeRequests (l : Lcd) (m : BitVec 2) : Byte :=
  (if (m == 0#2 && l.stat.getLsbD 3) || (m == 1#2 && l.stat.getLsbD 4) || (m == 2#2 && l.stat.getLsbD 5)
    then Interrupt.lcdStat.bit else 0#8) |||
  (if m == 1#2 then Interrupt.vBlank.bit else 0#8)

/-- `setMode(m)` (R351). -/
def enterMode (l : Lcd) (m : BitVec 2) : Lcd × Byte := (l.setModeBits m, l.modeRequests m)

/-- `compareLY()` (R352). -/
def compareLy (l : Lcd) : Lcd × Byte :=
  if l.ly = l.lyc then
    ({ l with stat := l.stat ||| 0x04#8 }, if l.stat.getLsbD 6 then Interrupt.lcdStat.bit else 0#8)
  else ({ l with stat := l.stat &&& 0xFB#8 }, 0#8)

/-- `LY <- v; compareLY()`. -/
def setLy (l : Lcd) (v : Byte) : Lcd × Byte := { l with ly := v }.compareLy

/-- `recomputeWindow()` (R372). -/
def recomputeWindow (l : Lcd) : Lcd := { l with winActive := Compose.windowActive l.lcdc l.wx }

/-! ## Off and on (R347, R348) -/

/-- `lcdPowerOff()` (R347). -/
def powerOff (l : Lcd) : Lcd × Byte :=
  let p := (l.setModeBits 0#2).setLy 0x00#8
  ({ p.1 with winLine := 0, builder := blankFrame, next := .idle }, p.2)

/-- `lcdPowerOn(c)` (R348). -/
def powerOn (l : Lcd) (c : Nat) : Lcd × Byte :=
  let p := l.enterMode 2#2
  ({ p.1 with next := .activeAt (c + Config.mode2Cycles) }, p.2)

/-! ## Frames (R357, R359, R373) -/

/-- `composeLine()`: stores the line and counts the window's line when it was drawn. -/
def composeLine (read : Word → Byte) (l : Lcd) : Lcd :=
  { l with
    builder := l.builder.set l.ly.toNat (Compose.line read l)
    winLine := if Compose.windowDrawn l then l.winLine + 1 else l.winLine }

/-- `publishFrame()`. -/
def publishFrame (l : Lcd) : Lcd := { l with image := l.builder }

/-! ## The mode state machine (R350) -/

/-- Mode 2 ends: Mode 3 begins and the line is composed. -/
def endMode2 (read : Word → Byte) (c : Nat) (l : Lcd) : Lcd × Byte :=
  let p := l.enterMode 3#2
  ({ composeLine read p.1 with next := .activeAt (c + Config.mode3Cycles) }, p.2)

/-- Mode 3 ends. -/
def endMode3 (c : Nat) (l : Lcd) : Lcd × Byte :=
  let p := l.enterMode 0#2
  ({ p.1 with next := .activeAt (c + Config.mode0Cycles) }, p.2)

/-- Mode 0 ends: the next visible line, or after line 143 the vertical blank. -/
def endMode0 (c : Nat) (l : Lcd) : Lcd × Byte :=
  if l.ly = 143#8 then
    let p := l.setLy 144#8
    let q := p.1.enterMode 1#2
    ({ publishFrame q.1 with next := .activeAt (c + Config.lineCycles) }, p.2 ||| q.2)
  else
    let p := l.setLy (l.ly + 1)
    let q := p.1.enterMode 2#2
    ({ q.1 with next := .activeAt (c + Config.mode2Cycles) }, p.2 ||| q.2)

/-- A line of the vertical blank ends: the next one, or after line 153 the new frame. -/
def endMode1 (c : Nat) (l : Lcd) : Lcd × Byte :=
  if l.ly = 153#8 then
    let p := l.setLy 0#8
    let q := { p.1 with winLine := 0, builder := blankFrame }.enterMode 2#2
    ({ q.1 with next := .activeAt (c + Config.mode2Cycles) }, p.2 ||| q.2)
  else
    let p := l.setLy (l.ly + 1)
    ({ p.1 with next := .activeAt (c + Config.lineCycles) }, p.2)

/-- `lcdTransition(c)` (R350). -/
def transition (read : Word → Byte) (c : Nat) (l : Lcd) : Lcd × Byte :=
  match l.mode.toNat with
  | 2 => endMode2 read c l
  | 3 => endMode3 c l
  | 0 => endMode0 c l
  | _ => endMode1 c l

/-- The mode machine's part of `Lcd.cycle(c)` (R341). -/
def cycleModes (read : Word → Byte) (c : Nat) (l : Lcd) : Lcd × Byte :=
  match l.next with
  | .idle => if l.lcdc.getLsbD 7 then l.powerOn c else (l, 0#8)
  | .activeAt n => if n = c then l.transition read c else (l, 0#8)

/-! ## The bus port (R342, R345) -/

/-- Register k's read value. -/
def readReg (l : Lcd) : LcdReg → Byte
  | .lcdc => l.lcdc
  | .stat => l.stat
  | .scy => l.scy
  | .scx => l.scx
  | .ly => l.ly
  | .lyc => l.lyc
  | .dma => l.dmaReg
  | .bgp => l.bgp
  | .obp0 => l.obp0
  | .obp1 => l.obp1
  | .wy => l.wy
  | .wx => l.wx

/-- A write of LCDC: the LCD may go off, and the window flag is recomputed. -/
def writeLcdc (l : Lcd) (v : Byte) : Lcd × Byte :=
  let l' := { l with lcdc := v }
  let p := if l.lcdc.getLsbD 7 && !v.getLsbD 7 then l'.powerOff else (l', 0#8)
  (p.1.recomputeWindow, p.2)

/-- The effect of writing a register. LY ignores writes; the DMA register's transfer is started by the component's
write. -/
def writeReg (l : Lcd) (r : LcdReg) (v : Byte) : Lcd × Byte :=
  match r with
  | .lcdc => l.writeLcdc v
  | .stat => ({ l with stat := (v &&& 0xF8#8) ||| (l.stat &&& 0x07#8) }, 0#8)
  | .scy => ({ l with scy := v }, 0#8)
  | .scx => ({ l with scx := v }, 0#8)
  | .ly => (l, 0#8)
  | .lyc => { l with lyc := v }.compareLy
  | .dma => ({ l with dmaReg := v }, 0#8)
  | .bgp => ({ l with bgp := v }, 0#8)
  | .obp0 => ({ l with obp0 := v }, 0#8)
  | .obp1 => ({ l with obp1 := v }, 0#8)
  | .wy => ({ l with wy := v }, 0#8)
  | .wx => ({ l with wx := v }.recomputeWindow, 0#8)

/-- `Lcd.read(a)`; none is NO_DATA. -/
def read (l : Lcd) (a : Word) : Option Byte := (LcdReg.at? a).map l.readReg

/-- `Lcd.write(a, v)`. -/
def write (l : Lcd) (a : Word) (v : Byte) : Lcd × Byte :=
  match LcdReg.at? a with
  | some r => l.writeReg r v
  | none => (l, 0#8)

end Lcd

/-- `dmaStart(v)` (R381): also while a transfer is active. -/
def Dma.start (v : Byte) : Dma := ⟨true, wordOf v 0x00#8, 0⟩

end Sys2Proof.Machine
end

