-- ==== Sys2Proof/Machine/Flags.lean ====
section
/-! DEFINITION. The stateless 8/16-bit ALU with flag computation (40_alu.md, block D01), and the flags of F
(10_state.md R22). Each operation computes exactly on integers and narrows at the end, as its rule is written. -/

namespace Sys2Proof.Machine

open Sys2Proof

/-! ## The flag byte -/

/-- `flags(z, n, h, c)` (00_scope.md R12): bits 7, 6, 5, 4; the low nibble is zero. -/
def flagByte (z n h c : Bool) : Byte :=
  BitVec.ofNat 8 (z.toNat * 128 + n.toNat * 64 + h.toNat * 32 + c.toNat * 16)

/-- fZ, bit 7 of F. -/
def flagZ (f : Byte) : Bool := f.getLsbD 7
/-- fN, bit 6 of F. -/
def flagN (f : Byte) : Bool := f.getLsbD 6
/-- fH, bit 5 of F. -/
def flagH (f : Byte) : Bool := f.getLsbD 5
/-- fC, bit 4 of F. -/
def flagC (f : Byte) : Bool := f.getLsbD 4

/-! ## The result word -/

/-- The ALU's result word (40_alu.md R131), its two parts `val(W)` and `flg(W)` held side by side (log entry 12). -/
structure AluWord (w : Nat) where
  val : BitVec w
  flg : Byte
  deriving DecidableEq, Repr

/-- The word as the single packed number `(value << 8) | flag_byte`. -/
def AluWord.packed {w : Nat} (W : AluWord w) : BitVec (w + 8) := W.val ++ W.flg

/-- zf(W). -/
def AluWord.zf {w : Nat} (W : AluWord w) : Bool := flagZ W.flg
/-- hf(W). -/
def AluWord.hf {w : Nat} (W : AluWord w) : Bool := flagH W.flg
/-- cf(W). -/
def AluWord.cf {w : Nat} (W : AluWord w) : Bool := flagC W.flg

/-- A result word under the Zero law: z is 1 iff the whole value is 0 (R133). -/
def aluWord {w : Nat} (value : BitVec w) (n h c : Bool) : AluWord w :=
  ⟨value, flagByte (value == 0#w) n h c⟩

namespace Alu

/-! ## Addition and subtraction (R135 to R138) -/

/-- R135. -/
def add (l r : Byte) (c0 : Bool) : AluWord 8 :=
  aluWord (BitVec.ofNat 8 (l.toNat + r.toNat + c0.toNat)) false
    (decide (l.toNat % 16 + r.toNat % 16 + c0.toNat > 15))
    (decide (l.toNat + r.toNat + c0.toNat > 255))

/-- R136: `(l - r - b0) mod 256`. -/
def sub (l r : Byte) (b0 : Bool) : AluWord 8 :=
  aluWord (BitVec.ofInt 8 ((l.toNat : Int) - r.toNat - b0.toNat)) true
    (decide (l.toNat % 16 < r.toNat % 16 + b0.toNat))
    (decide (l.toNat < r.toNat + b0.toNat))

/-- R137, the low-byte-sourced 16-bit addition. -/
def add16L (l r : Word) : AluWord 16 :=
  aluWord (BitVec.ofNat 16 (l.toNat + r.toNat)) false
    (decide (l.toNat % 16 + r.toNat % 16 > 0xF))
    (decide (l.toNat % 256 + r.toNat % 256 > 0xFF))

/-- R138, the high-byte-sourced 16-bit addition. -/
def add16H (l r : Word) : AluWord 16 :=
  aluWord (BitVec.ofNat 16 (l.toNat + r.toNat)) false
    (decide (l.toNat % 4096 + r.toNat % 4096 > 0xFFF))
    (decide (l.toNat + r.toNat > 0xFFFF))

/-! ## Decimal adjustment (R139) -/

/-- Whether the low nibble is corrected by 6. -/
def bcdFixLow (v : Byte) (n h : Bool) : Bool := h || (!n && decide (v.toNat % 16 > 9))
/-- Whether the high nibble is corrected by 6. -/
def bcdFixHigh (v : Byte) (n c : Bool) : Bool := c || (!n && decide (v.toNat > 0x99))

/-- R139. -/
def bcdAdjust (v : Byte) (n h c : Bool) : AluWord 8 :=
  let fix : Byte := (if bcdFixHigh v n c then 0x60#8 else 0x00#8) + (if bcdFixLow v n h then 0x06#8 else 0x00#8)
  aluWord (if n then v - fix else v + fix) n false (bcdFixHigh v n c)

/-! ## Logic (R140 to R142) -/

/-- R140: H is always 1, C always 0. -/
def and (l r : Byte) : AluWord 8 := aluWord (l &&& r) false true false
/-- R141. -/
def or (l r : Byte) : AluWord 8 := aluWord (l ||| r) false false false
/-- R142. -/
def xor (l r : Byte) : AluWord 8 := aluWord (l ^^^ r) false false false

/-! ## Shifts, rotations, swap, bit test (R143 to R149) -/

/-- R143. -/
def shiftLeft (v : Byte) : AluWord 8 := aluWord (v <<< 1) false false (v.getLsbD 7)
/-- R144. -/
def shiftRightA (v : Byte) : AluWord 8 := aluWord ((v >>> 1) ||| (v &&& 0x80#8)) false false (v.getLsbD 0)
/-- R145. -/
def shiftRightL (v : Byte) : AluWord 8 := aluWord (v >>> 1) false false (v.getLsbD 0)

/-- The direction of a rotation. -/
inductive Dir where
  | left | right
  deriving DecidableEq, Repr

/-- A single bit as a byte. -/
def bitByte (c : Bool) : Byte := BitVec.ofNat 8 c.toNat

/-- R146: the 8-bit rotation without carry-in. -/
def rotate (dir : Dir) (v : Byte) : AluWord 8 :=
  match dir with
  | .left => aluWord ((v <<< 1) ||| (v >>> 7)) false false (v.getLsbD 7)
  | .right => aluWord ((v >>> 1) ||| ((v &&& 1#8) <<< 7)) false false (v.getLsbD 0)

/-- R147: the 9-bit rotation through the carry. -/
def rotateC (dir : Dir) (v : Byte) (c0 : Bool) : AluWord 8 :=
  match dir with
  | .left => aluWord ((v <<< 1) ||| bitByte c0) false false (v.getLsbD 7)
  | .right => aluWord ((v >>> 1) ||| (bitByte c0 <<< 7)) false false (v.getLsbD 0)

/-- R148. -/
def swap (v : Byte) : AluWord 8 := aluWord (((v &&& 0x0F#8) <<< 4) ||| (v >>> 4)) false false false

/-- R149: the tested bit in place. DESIGN CHOICE of the spec, D18. -/
def testBit (v : Byte) (b : Fin 8) : AluWord 8 := aluWord (v &&& (1#8 <<< b.val)) false true false

end Alu

end Sys2Proof.Machine
end

