-- ==== Sys2Proof/Machine/Operands.lean ====
section
/-! DEFINITION. Reading and writing the CPU's registers and pairs (10_state.md R20, R21, R23), the effective
addresses of 41_load8.md, the signed immediate (30_encoding.md R113) and the condition (46_control.md R301).
Every read and write of a register by an instruction goes through these. -/

namespace Sys2Proof.Machine

open Sys2Proof

/-! ## Immediates -/

/-- `sext_16(e)` (30_encoding.md R113). -/
def sext16 (e : Byte) : Word := e.signExtend 16

/-- The high-page address `0xFF00 + n` (30_encoding.md R113; 41_load8.md). -/
def highPage (n : Byte) : Word := wordOf 0xFF#8 n

namespace State

/-! ## 8-bit registers -/

/-- `x[r]`. -/
def reg (s : State) : Reg8 → Byte
  | .A => s.regs.a
  | .B => s.regs.b
  | .C => s.regs.c
  | .D => s.regs.d
  | .E => s.regs.e
  | .H => s.regs.h
  | .L => s.regs.l

/-- `x[r] <- v`. -/
def setReg (s : State) (r : Reg8) (v : Byte) : State :=
  match r with
  | .A => { s with regs := { s.regs with a := v } }
  | .B => { s with regs := { s.regs with b := v } }
  | .C => { s with regs := { s.regs with c := v } }
  | .D => { s with regs := { s.regs with d := v } }
  | .E => { s with regs := { s.regs with e := v } }
  | .H => { s with regs := { s.regs with h := v } }
  | .L => { s with regs := { s.regs with l := v } }

/-- Every write to F stores `v & 0xF0` (10_state.md R23). -/
def setF (s : State) (v : Byte) : State := { s with regs := { s.regs with f := v &&& 0xF0#8 } }

/-- `F <- flags(z, n, h, c)` (00_scope.md R12). -/
def setFlags (s : State) (z n h c : Bool) : State := s.setF (flagByte z n h c)

/-- fZ. -/
def fZ (s : State) : Bool := flagZ s.regs.f
/-- fN. -/
def fN (s : State) : Bool := flagN s.regs.f
/-- fH. -/
def fH (s : State) : Bool := flagH s.regs.f
/-- fC. -/
def fC (s : State) : Bool := flagC s.regs.f

/-! ## Pairs -/

/-- `AF = A ++ F`. -/
def af (s : State) : Word := wordOf s.regs.a s.regs.f
/-- `BC = B ++ C`. -/
def bc (s : State) : Word := wordOf s.regs.b s.regs.c
/-- `DE = D ++ E`. -/
def de (s : State) : Word := wordOf s.regs.d s.regs.e
/-- `HL = H ++ L`. -/
def hl (s : State) : Word := wordOf s.regs.h s.regs.l

/-- `AF <- v`, the low nibble of F masked (00_scope.md R12). -/
def setAF (s : State) (v : Word) : State := (s.setReg .A (hiByte v)).setF (loByte v)
/-- `BC <- v`. -/
def setBC (s : State) (v : Word) : State := (s.setReg .B (hiByte v)).setReg .C (loByte v)
/-- `DE <- v`. -/
def setDE (s : State) (v : Word) : State := (s.setReg .D (hiByte v)).setReg .E (loByte v)
/-- `HL <- v`. -/
def setHL (s : State) (v : Word) : State := (s.setReg .H (hiByte v)).setReg .L (loByte v)
/-- `SP <- v`. -/
def setSP (s : State) (v : Word) : State := { s with sp := v }

/-- A pair of `r16(p)` (30_encoding.md R106). -/
def pair (s : State) : Pair → Word
  | .BC => s.bc
  | .DE => s.de
  | .HL => s.hl
  | .SP => s.sp

/-- Write of a pair of `r16(p)`. -/
def setPair (s : State) (p : Pair) (v : Word) : State :=
  match p with
  | .BC => s.setBC v
  | .DE => s.setDE v
  | .HL => s.setHL v
  | .SP => s.setSP v

/-- A pair of `r16stk(p)` (30_encoding.md R106). -/
def stackPair (s : State) : StackPair → Word
  | .BC => s.bc
  | .DE => s.de
  | .HL => s.hl
  | .AF => s.af

/-- Write of a pair of `r16stk(p)`. -/
def setStackPair (s : State) (q : StackPair) (v : Word) : State :=
  match q with
  | .BC => s.setBC v
  | .DE => s.setDE v
  | .HL => s.setHL v
  | .AF => s.setAF v

/-! ## Conditions -/

/-- `cond(cc)` on F as it is when the instruction starts (46_control.md R301). -/
def cond (s : State) : Cond → Bool
  | .NZ => !s.fZ
  | .Z => s.fZ
  | .NC => !s.fC
  | .C => s.fC

end State

end Sys2Proof.Machine
end

