-- ==== Sys2Proof/Machine/Timers.lean ====
section
/-! DEFINITION. The programmable timer (48_timer.md, block D26). Each rule that may count an edge answers the timer
after it and the interrupt bits it requests. -/

namespace Sys2Proof.Machine

open Sys2Proof

/-- The timer's registers, in the order of their addresses (10_state.md R34, R36). -/
inductive TimerReg where
  | div | tima | tma | tac
  deriving DecidableEq, Repr

/-- The register at an address, REG_DIV to REG_TAC (10_state.md R36). -/
def TimerReg.at? (a : Word) : Option TimerReg :=
  match (a - Config.regDiv).toNat with
  | 0 => some .div
  | 1 => some .tima
  | 2 => some .tma
  | 3 => some .tac
  | _ => none

namespace Timer

/-- `SEL(TAC[1:0])`, the bit of `main` that drives TIMA (R321). -/
def selectedBit (t : Timer) : Nat :=
  match t.tac.toNat % 4 with
  | 0 => 9
  | 1 => 3
  | 2 => 5
  | _ => 7

/-- `tstate = TAC[2] & main[SEL(TAC[1:0])]` (R321). -/
def signal (t : Timer) : Bool := t.tac.getLsbD 2 && t.main.getLsbD t.selectedBit

/-- `incTima()` (R323): on overflow the reload and the request happen at once. -/
def incTima (t : Timer) : Timer × Byte :=
  if t.tima = 0xFF#8 then ({ t with tima := t.tma }, Interrupt.timer.bit)
  else ({ t with tima := t.tima + 1 }, 0#8)

/-- After a change of `main` or TAC: a falling edge of the signal counts (R321). -/
def countEdge (before after : Timer) : Timer × Byte :=
  if before.signal && !after.signal then after.incTima else (after, 0#8)

/-- `Timer.cycle` (R322). -/
def tick (t : Timer) : Timer × Byte := t.countEdge { t with main := t.main + 1 }

/-- The register's read value (R324). -/
def readReg (t : Timer) : TimerReg → Byte
  | .div => t.main.extractLsb' 8 8
  | .tima => t.tima
  | .tma => t.tma
  | .tac => t.tac.zeroExtend 8

/-- The effect of writing a register (R325 to R327). -/
def writeReg (t : Timer) (r : TimerReg) (v : Byte) : Timer × Byte :=
  match r with
  | .div => t.countEdge { t with main := 0x0000#16 }
  | .tima => ({ t with tima := v }, 0#8)
  | .tma => ({ t with tma := v }, 0#8)
  | .tac => t.countEdge { t with tac := v.truncate 3 }

/-- `Timer.read(a)` (R324); none is NO_DATA. -/
def read (t : Timer) (a : Word) : Option Byte := (TimerReg.at? a).map t.readReg

/-- `Timer.write(a, v)` (R325 to R328). -/
def write (t : Timer) (a : Word) (v : Byte) : Timer × Byte :=
  match TimerReg.at? a with
  | some r => t.writeReg r v
  | none => (t, 0#8)

end Timer

end Sys2Proof.Machine
end

