-- ==== Sys2Proof/Machine/Ops.lean ====
section
/-! DEFINITION. The shared operations: stored bytes; the bus and its components (20_memory.md R60 to R74); the ends
of an instruction (30_encoding.md R110, 60_exceptions.md R409); the stack (42_load16_stack.md R201, R202); taking
an interrupt and returning from one (60_exceptions.md R403, R410, R412); the fetch (30_encoding.md R104). -/

namespace Sys2Proof.Machine

open Sys2Proof

/-! ## Stored bytes -/

namespace Memory

/-- The byte stored under a key. -/
def read (m : Memory) (k : Nat) : Byte :=
  match m with
  | [] => fill
  | c :: rest => if c.1 = k then c.2 else read rest k

/-- Nothing stored under a key any more. -/
def erase (m : Memory) (k : Nat) : Memory := m.filter fun c => c.1 != k

/-- A cell put in at its place. -/
def insert (m : Memory) (k : Nat) (v : Byte) : Memory :=
  match m with
  | [] => [(k, v)]
  | c :: rest => if k < c.1 then (k, v) :: c :: rest else c :: insert rest k v

/-- One byte stored; the form stays canonical. -/
def write (m : Memory) (k : Nat) (v : Byte) : Memory :=
  if v = fill then m.erase k else (m.erase k).insert k v

end Memory

/-! ## Components (20_memory.md R62, R73) -/

namespace Component

/-- Where a storage component keeps the byte of an address it owns: VRAM and OAM under the address itself
(10_state.md R40), an external component under its bank and address (log entry 4). -/
def cell? (d : Component) (a : Word) : Option Nat :=
  match d with
  | .cpu => none
  | .timer => none
  | .lcd => none
  | .vram => if 0x8000 ≤ a.toNat ∧ a.toNat ≤ 0x9FFF then some a.toNat else none
  | .oam => if 0xFE00 ≤ a.toNat ∧ a.toNat ≤ 0xFE9F then some a.toNat else none
  | .ram bank first last size =>
    if first ≤ a.toNat ∧ a.toNat ≤ last then some (bank * 65536 + first + (a.toNat - first) % size) else none
  | .rom bank first last =>
    if first ≤ a.toNat ∧ a.toNat ≤ last then some (bank * 65536 + a.toNat) else none
  | .overlay bank first last enabled =>
    if enabled = true ∧ first ≤ a.toNat ∧ a.toNat ≤ last then some (bank * 65536 + a.toNat) else none

/-- `component.read(a)`; none is NO_DATA (R63). It changes no state. -/
def read (d : Component) (s : State) (a : Word) : Option Byte :=
  match d with
  | .cpu => if a = Config.regIf then some s.iflag else if a = Config.regIe then some s.ie else none
  | .timer => s.timer.read a
  | .lcd => s.lcd.read a
  | _ => (d.cell? a).map s.mem.read

end Component

namespace State

/-- Bits of IF set by a rule that requests interrupts (60_exceptions.md R403; log entry 17). -/
def request (s : State) (mask : Byte) : State := { s with iflag := s.iflag ||| mask }

/-- `requestInterrupt(k)` (60_exceptions.md R403). -/
def requestInterrupt (s : State) (k : Interrupt) : State := s.request k.bit

/-- The timer after a rule, with what it requests. -/
def withTimer (s : State) (p : Timer × Byte) : State := { s with timer := p.1 }.request p.2

/-- The LCD controller after a rule, with what it requests. -/
def withLcd (s : State) (p : Lcd × Byte) : State := { s with lcd := p.1 }.request p.2

/-- `component.write(a, v)`: a component that does not own the address ignores it (20_memory.md R62); a ROM and an
overlay ignore every write. -/
def componentWrite (s : State) (d : Component) (a : Word) (v : Byte) : State :=
  match d with
  | .cpu => if a = Config.regIf then { s with iflag := v } else if a = Config.regIe then { s with ie := v } else s
  | .timer => s.withTimer (s.timer.write a v)
  | .lcd =>
    let t := s.withLcd (s.lcd.write a v)
    if a = Config.regDma then { t with dma := Dma.start v } else t
  | .rom _ _ _ => s
  | .overlay _ _ _ _ => s
  | _ =>
    match d.cell? a with
    | some k => { s with mem := s.mem.write k v }
    | none => s

/-! ## The bus -/

/-- `Bus.read(a)`: the first answer in attachment order, or 0xFF (20_memory.md R64). -/
def busRead (s : State) (a : Word) : Byte := (s.bus.findSome? fun d => d.read s a).getD 0xFF#8

/-- `Bus.write(a, v)`: a broadcast in attachment order (20_memory.md R65). -/
def busWrite (s : State) (a : Word) (v : Byte) : State := s.bus.foldl (fun t d => t.componentWrite d a v) s

/-- `MemRead(a, 2)`: the low byte first (00_scope.md R13). -/
def busRead16 (s : State) (a : Word) : Word := wordOf (s.busRead (a + 1)) (s.busRead a)

/-- `MemWrite(a, 2, v)`: the low byte first (00_scope.md R13). -/
def busWrite16 (s : State) (a v : Word) : State := (s.busWrite a (loByte v)).busWrite (a + 1) (hiByte v)

/-! ## The ends of an instruction -/

/-- The address of the next instruction, `PCnext` (00_scope.md R15). -/
def pcNext (s : State) (len : Nat) : Word := s.pc + BitVec.ofNat 16 len

/-- The unit of work is charged `cycles` cycles (60_exceptions.md R406, R409). -/
def charge (s : State) (cycles : Nat) : State := { s with cpuNext := .activeAt (s.cycle + cycles) }

/-- The end of an instruction that does not assign PC (30_encoding.md R110). -/
def finish (s : State) (len cycles : Nat) : State := { s with pc := s.pcNext len }.charge cycles

/-- The end of an instruction that assigns PC. -/
def jump (s : State) (target : Word) (cycles : Nat) : State := { s with pc := target }.charge cycles

/-! ## The stack -/

/-- `push16(v)` (42_load16_stack.md R201): the high byte at SP + 1 first, then the low byte at SP. -/
def push16 (s : State) (v : Word) : State :=
  let t := s.setSP (s.sp - 2)
  (t.busWrite (t.sp + 1) (hiByte v)).busWrite t.sp (loByte v)

/-- The value `pop16()` returns (42_load16_stack.md R202). -/
def top16 (s : State) : Word := s.busRead16 s.sp

/-- The state `pop16()` leaves (42_load16_stack.md R202). -/
def drop16 (s : State) : State := s.setSP (s.sp + 2)

/-! ## Interrupts -/

/-- `IE & IF & 0x1F` (10_state.md R30). -/
def pending (s : State) : Byte := pendingSet s.ie s.iflag

/-- Taking an interrupt: `dispatchInterrupt(k)`, charged 5 cycles (60_exceptions.md R410, R409). The saved state is
PC alone, on the stack; IME is cleared and so is the kind's bit of IF. -/
def dispatchInterrupt (s : State) (k : Interrupt) : State :=
  let t := { s with ime := false, iflag := s.iflag &&& ~~~k.bit }
  (t.push16 s.pc).jump k.vector Config.dispatchCycles

/-- Returning from an interrupt: `PC <- pop16(); IME <- 1` (46_control.md R299). -/
def returnFromInterrupt (s : State) (cycles : Nat) : State :=
  { s.drop16 with ime := true }.jump s.top16 cycles

/-! ## The fetch -/

/-- The instruction at PC. The two bytes after the opcode are read whether or not the instruction has them, which
nothing observes since reads change no state (20_memory.md R62; log entry 10). -/
def fetch (s : State) : Instr := decodeBytes (s.busRead s.pc) (s.busRead (s.pc + 1)) (s.busRead (s.pc + 2))

end State

end Sys2Proof.Machine
end

