-- ==== Sys2Proof/Machine/Devices.lean ====
section
/-! DEFINITION. What happens in a cycle before the CPU's step: the host's actions (60_exceptions.md R404, 00_scope.md
R9), the timer (48_timer.md R322), then the LCD controller with the OAM-DMA engine (49_lcd_dma.md R341, R380). -/

namespace Sys2Proof.Machine

open Sys2Proof

/-- Whether a key of `mem` holds a byte of VRAM or OAM, which the host may not write (00_scope.md R9). -/
def coreKey (key : Nat) : Bool :=
  (decide (0x8000 ≤ key) && decide (key ≤ 0x9FFF)) || (decide (0xFE00 ≤ key) && decide (key ≤ 0xFE9F))

/-- An overlay switched on or off; any other component as it is. -/
def Component.setEnabled (enabled : Bool) : Component → Component
  | .overlay bank first last _ => .overlay bank first last enabled
  | d => d

namespace State

/-- One action of the host. The list of components and its order stay (20_memory.md R61). -/
def applyAction (s : State) : HostAction → State
  | .requestSerial => s.requestInterrupt .serial
  | .requestJoypad => s.requestInterrupt .joypad
  | .setExternal key v => if coreKey key then s else { s with mem := s.mem.write key v }
  | .enableOverlay enabled => { s with bus := s.bus.map (Component.setEnabled enabled) }

/-- The host's actions before this cycle (70_reset_and_hazards.md R449: "apply inputs.requests"). -/
def applyInputs (s : State) : State :=
  match s.hostInputs with
  | [] => s
  | now :: later => now.foldl applyAction { s with hostInputs := later }

/-- `Timer.cycle(c)`. -/
def timerCycle (s : State) : State := s.withTimer s.timer.tick

/-- The count of copied bytes after one more; the transfer ends at 160. -/
def dmaAdvance (d : Dma) : Dma :=
  { d with offset := d.offset + 1, active := d.active && decide (d.offset + 1 ≠ Config.dmaLength) }

/-- `dmaStep()` (49_lcd_dma.md R380). -/
def dmaStep (s : State) : State :=
  if s.dma.active then
    let b := s.busRead (s.dma.source + BitVec.ofNat 16 s.dma.offset)
    let t := s.busWrite (0xFE00#16 + BitVec.ofNat 16 s.dma.offset) b
    { t with dma := dmaAdvance t.dma }
  else s

/-- The mode machine's part of `Lcd.cycle(c)`. The composer reads the bus as the DMA step left it (R377). -/
def modesCycle (s : State) : State := s.withLcd (s.lcd.cycleModes s.busRead s.cycle)

/-- `Lcd.cycle(c)`: the DMA step first (49_lcd_dma.md R341). -/
def lcdCycle (s : State) : State := s.dmaStep.modesCycle

/-- Everything before the CPU's step, in the order of 00_scope.md R8 and 70_reset_and_hazards.md R449. -/
def devicesCycle (s : State) : State := s.applyInputs.timerCycle.lcdCycle

end State

end Sys2Proof.Machine
end

