-- ==== Sys2Proof/Machine/Cpu.lean ====
section
/-! DEFINITION. The CPU's per-cycle rule (60_exceptions.md R406 to R409) and the driving loop (00_scope.md R8, R9;
70_reset_and_hazards.md R449), over a function that runs one instruction; and how an instruction is placed where the
next step fetches it (log entry 9). -/

namespace Sys2Proof.Machine

open Sys2Proof

namespace State

/-! ## The CPU -/

/-- An idle CPU with an enabled pending interrupt becomes active, whatever IME (R406, R407). -/
def wake (s : State) : State :=
  if s.cpuNext = .idle ∧ s.pending ≠ 0#8 then { s with cpuNext := .activeAt s.cycle } else s

/-- The kind the next unit of work dispatches: with IME set, the least pending one (R406, R411). -/
def interruptTaken (s : State) : Option Interrupt := if s.ime then leastPending s.pending else none

/-- One unit of work: a dispatch, or the instruction at PC (R406). -/
def unitOfWork (run : Instr → State → Result) (s : State) : Result :=
  match s.interruptTaken with
  | some k => .next (s.dispatchInterrupt k)
  | none => run s.fetch s

/-- `Cpu.cycle(c)` (R406). -/
def cpuCycle (run : Instr → State → Result) (s : State) : Result :=
  if s.wake.cpuNext = .activeAt s.cycle then s.wake.unitOfWork run else .next s.wake

/-! ## The driving loop -/

/-- `cycle <- cycle + 1`. -/
def nextCycle (s : State) : State := { s with cycle := s.cycle + 1 }

/-- One cycle: the devices, the CPU, then the next cycle number. -/
def cycleWith (run : Instr → State → Result) (s : State) : Result :=
  match s.devicesCycle.cpuCycle run with
  | .next t => .next t.nextCycle
  | .fault f => .fault f
  | .refused r => .refused r

/-- n cycles, ending early at a stop. -/
def cyclesWith (oneCycle : State → Result) : Nat → State → Result
  | 0, s => .next s
  | n + 1, s =>
    match oneCycle s with
    | .next t => cyclesWith oneCycle n t
    | .fault f => .fault f
    | .refused r => .refused r

/-- `runUntil(target)` (00_scope.md R9): a target already past is refused and changes nothing (log entry 22). -/
def runUntilWith (oneCycle : State → Result) (target : Nat) (s : State) : Result :=
  if target < s.cycle then .refused .timeTravel else cyclesWith oneCycle (target - s.cycle) s

/-! ## Placing an instruction -/

/-- The three bytes a fetch reads. -/
def fetchBytes (s : State) : Byte × Byte × Byte := (s.busRead s.pc, s.busRead (s.pc + 1), s.busRead (s.pc + 2))

/-- The cell of the component that answers address a first, if that component is storage. -/
def answeringCell? (s : State) (a : Word) : Option Nat :=
  (s.bus.find? fun d => (d.read s a).isSome).bind fun d => d.cell? a

/-- A byte stored where a read of a finds it; nothing where a register or no component answers. -/
def placeByte (s : State) (a : Word) (v : Byte) : State :=
  match s.answeringCell? a with
  | some k => { s with mem := s.mem.write k v }
  | none => s

/-- Three bytes stored at PC, PC + 1 and PC + 2. -/
def placeBytes (s : State) (b : Byte × Byte × Byte) : State :=
  ((s.placeByte s.pc b.1).placeByte (s.pc + 1) b.2.1).placeByte (s.pc + 2) b.2.2

/-- A bank that no component of the list uses. -/
def freshBank (bus : List Component) : Nat :=
  1 + bus.foldl (fun n d => match d with
    | .ram bank _ _ _ => max n bank
    | .rom bank _ _ => max n bank
    | .overlay bank _ _ _ => max n bank
    | _ => n) 0

/-- Three bytes in a ROM attached before every other component, as a boot ROM is (20_memory.md R64). -/
def overlayBytes (s : State) (b : Byte × Byte × Byte) : State :=
  let bank := freshBank s.bus
  let at' (a : Word) : Component := .rom bank a.toNat a.toNat
  let m := ((s.mem.write (bank * 65536 + s.pc.toNat) b.1).write (bank * 65536 + (s.pc + 1).toNat) b.2.1).write
    (bank * 65536 + (s.pc + 2).toNat) b.2.2
  { s with bus := [at' s.pc, at' (s.pc + 1), at' (s.pc + 2)] ++ s.bus, mem := m }

/-- The state whose next cycle runs the instruction with these bytes: they stand at PC, in the storage that answers
there or, where that does not do, in an overlay; the CPU is active in this cycle; and IME is cleared if an interrupt
would be dispatched first. -/
def withInstructionBytes (s : State) (b : Byte × Byte × Byte) : State :=
  let t := { s.placeBytes b with cpuNext := .activeAt s.cycle }
  let u := if t.devicesCycle.fetchBytes = b then t else { s.overlayBytes b with cpuNext := .activeAt s.cycle }
  if u.devicesCycle.interruptTaken.isSome then { u with ime := false } else u

end State

end Sys2Proof.Machine
end

