-- ==== Sys2Proof/Machine/Load16.lean ====
section
/-! DEFINITION. The 16-bit loads and the stack instructions (42_load16_stack.md). -/

namespace Sys2Proof.Machine

open Sys2Proof

/-! ## Shared -/

/-- `rr <- nn` (R190). -/
def State.loadPair (s : State) (p : Pair) (nn : Word) : State := (s.setPair p nn).finish 3 3

/-- `push16(rr)` (R194). -/
def State.pushPair (s : State) (q : StackPair) : State := (s.push16 (s.stackPair q)).finish 1 4

/-- `rr <- pop16()` (R195); for AF the low nibble of F is masked by the write of AF (R203). -/
def State.popPair (s : State) (q : StackPair) : State := (s.drop16.setStackPair q s.top16).finish 1 3

/-- `ALU.add16L(SP, sext_16(e))` (R193, 44_arith16.md R253). -/
def State.spPlus (s : State) (e : Byte) : AluWord 16 := Alu.add16L s.sp (sext16 e)

/-! ## The instructions -/

/-- LD BC,nn (R190). -/
def execLd_BC_nn (nn : Word) (s : State) : Result := .next (s.loadPair .BC nn)

/-- LD (nn),SP (R191). -/
def execLd_mnn_SP (nn : Word) (s : State) : Result := .next ((s.busWrite16 nn s.sp).finish 3 5)

/-- LD DE,nn (R190). -/
def execLd_DE_nn (nn : Word) (s : State) : Result := .next (s.loadPair .DE nn)

/-- LD HL,nn (R190). -/
def execLd_HL_nn (nn : Word) (s : State) : Result := .next (s.loadPair .HL nn)

/-- LD SP,nn (R190). -/
def execLd_SP_nn (nn : Word) (s : State) : Result := .next (s.loadPair .SP nn)

/-- POP BC (R195). -/
def execPop_BC (s : State) : Result := .next (s.popPair .BC)

/-- PUSH BC (R194). -/
def execPush_BC (s : State) : Result := .next (s.pushPair .BC)

/-- POP DE (R195). -/
def execPop_DE (s : State) : Result := .next (s.popPair .DE)

/-- PUSH DE (R194). -/
def execPush_DE (s : State) : Result := .next (s.pushPair .DE)

/-- POP HL (R195). -/
def execPop_HL (s : State) : Result := .next (s.popPair .HL)

/-- PUSH HL (R194). -/
def execPush_HL (s : State) : Result := .next (s.pushPair .HL)

/-- POP AF (R203). -/
def execPop_AF (s : State) : Result := .next (s.popPair .AF)

/-- PUSH AF (R194). -/
def execPush_AF (s : State) : Result := .next (s.pushPair .AF)

/-- LD HL,SP+e (R193). -/
def execLd_HL_SPe (e : Byte) (s : State) : Result :=
  .next (((s.setHL (s.spPlus e).val).setFlags false false (s.spPlus e).hf (s.spPlus e).cf).finish 2 3)

/-- LD SP,HL (R192). -/
def execLd_SP_HL (s : State) : Result := .next ((s.setSP s.hl).finish 1 2)

end Sys2Proof.Machine
end

