-- ==== Sys2Proof/Machine/Arith16.lean ====
section
/-! DEFINITION. 16-bit arithmetic (44_arith16.md). -/

namespace Sys2Proof.Machine

open Sys2Proof

/-! ## Shared -/

/-- ADD HL,rr (R250): Z is kept. -/
def State.addPair (s : State) (p : Pair) : State :=
  let W := Alu.add16H s.hl (s.pair p)
  ((s.setHL W.val).setFlags s.fZ false W.hf W.cf).finish 1 2

/-- `rr <- v`, with no flag (R251, R252). -/
def State.stepPair (s : State) (p : Pair) (v : Word) : State := (s.setPair p v).finish 1 2

/-! ## The instructions -/

/-- INC BC (R251). -/
def execInc_BC (s : State) : Result := .next (s.stepPair .BC (s.pair .BC + 1))

/-- ADD HL,BC (R250). -/
def execAdd_HL_BC (s : State) : Result := .next (s.addPair .BC)

/-- DEC BC (R252). -/
def execDec_BC (s : State) : Result := .next (s.stepPair .BC (s.pair .BC - 1))

/-- INC DE (R251). -/
def execInc_DE (s : State) : Result := .next (s.stepPair .DE (s.pair .DE + 1))

/-- ADD HL,DE (R250). -/
def execAdd_HL_DE (s : State) : Result := .next (s.addPair .DE)

/-- DEC DE (R252). -/
def execDec_DE (s : State) : Result := .next (s.stepPair .DE (s.pair .DE - 1))

/-- INC HL (R251). -/
def execInc_HL (s : State) : Result := .next (s.stepPair .HL (s.pair .HL + 1))

/-- ADD HL,HL (R250). -/
def execAdd_HL_HL (s : State) : Result := .next (s.addPair .HL)

/-- DEC HL (R252). -/
def execDec_HL (s : State) : Result := .next (s.stepPair .HL (s.pair .HL - 1))

/-- INC SP (R251). -/
def execInc_SP (s : State) : Result := .next (s.stepPair .SP (s.pair .SP + 1))

/-- ADD HL,SP (R250). -/
def execAdd_HL_SP (s : State) : Result := .next (s.addPair .SP)

/-- DEC SP (R252). -/
def execDec_SP (s : State) : Result := .next (s.stepPair .SP (s.pair .SP - 1))

/-- ADD SP,e (R253). -/
def execAdd_SP_e (e : Byte) (s : State) : Result :=
  .next (((s.setSP (s.spPlus e).val).setFlags false false (s.spPlus e).hf (s.spPlus e).cf).finish 2 4)

end Sys2Proof.Machine
end

