-- ==== Sys2Proof/Machine/Arith8.lean ====
section
/-! DEFINITION. 8-bit arithmetic and logic (43_arith8.md). -/

namespace Sys2Proof.Machine

open Sys2Proof

/-! ## Shared -/

/-- The word an accumulator operation computes from A and the operand (R210 to R233; 40_alu.md R151). -/
def State.accWord (s : State) (op : AluOp) (v : Byte) : AluWord 8 :=
  match op with
  | .add => Alu.add (s.reg .A) v false
  | .adc => Alu.add (s.reg .A) v s.fC
  | .sub => Alu.sub (s.reg .A) v false
  | .sbc => Alu.sub (s.reg .A) v s.fC
  | .and => Alu.and (s.reg .A) v
  | .xor => Alu.xor (s.reg .A) v
  | .or => Alu.or (s.reg .A) v
  | .cp => Alu.sub (s.reg .A) v false

/-- `A <- val(W); F <- flg(W)`; CP discards the value (R231). -/
def State.acc (s : State) (op : AluOp) (v : Byte) (len cycles : Nat) : State :=
  let W := s.accWord op v
  let t := match op with
    | .cp => s
    | _ => s.setReg .A W.val
  (t.setF W.flg).finish len cycles

/-- `F <- flags(zf(W), 0, hf(W), fC)` after an increment (R234). -/
def State.setIncFlags (s : State) (W : AluWord 8) : State := s.setFlags W.zf false W.hf s.fC

/-- `F <- flags(zf(W), 1, hf(W), fC)` after a decrement (R236). -/
def State.setDecFlags (s : State) (W : AluWord 8) : State := s.setFlags W.zf true W.hf s.fC

/-- INC r (R234). -/
def State.incReg (s : State) (r : Reg8) : State :=
  let W := Alu.add (s.reg r) 1#8 false
  ((s.setReg r W.val).setIncFlags W).finish 1 1

/-- DEC r (R236). -/
def State.decReg (s : State) (r : Reg8) : State :=
  let W := Alu.sub (s.reg r) 1#8 false
  ((s.setReg r W.val).setDecFlags W).finish 1 1

/-! ## The instructions -/

/-- INC B (R234). -/
def execInc_B (s : State) : Result := .next (s.incReg .B)

/-- DEC B (R236). -/
def execDec_B (s : State) : Result := .next (s.decReg .B)

/-- INC C (R234). -/
def execInc_C (s : State) : Result := .next (s.incReg .C)

/-- DEC C (R236). -/
def execDec_C (s : State) : Result := .next (s.decReg .C)

/-- INC D (R234). -/
def execInc_D (s : State) : Result := .next (s.incReg .D)

/-- DEC D (R236). -/
def execDec_D (s : State) : Result := .next (s.decReg .D)

/-- INC E (R234). -/
def execInc_E (s : State) : Result := .next (s.incReg .E)

/-- DEC E (R236). -/
def execDec_E (s : State) : Result := .next (s.decReg .E)

/-- INC H (R234). -/
def execInc_H (s : State) : Result := .next (s.incReg .H)

/-- DEC H (R236). -/
def execDec_H (s : State) : Result := .next (s.decReg .H)

/-- DAA (R238). -/
def execDaa (s : State) : Result :=
  let W := Alu.bcdAdjust (s.reg .A) s.fN s.fH s.fC
  .next (((s.setReg .A W.val).setFlags W.zf s.fN false W.cf).finish 1 1)

/-- INC L (R234). -/
def execInc_L (s : State) : Result := .next (s.incReg .L)

/-- DEC L (R236). -/
def execDec_L (s : State) : Result := .next (s.decReg .L)

/-- CPL (R239). -/
def execCpl (s : State) : Result :=
  .next (((s.setReg .A (s.reg .A ^^^ 0xFF#8)).setFlags s.fZ true true s.fC).finish 1 1)

/-- INC (HL) (R235). -/
def execInc_mHL (s : State) : Result :=
  let W := Alu.add (s.busRead s.hl) 1#8 false
  .next (((s.busWrite s.hl W.val).setIncFlags W).finish 1 3)

/-- DEC (HL) (R237). -/
def execDec_mHL (s : State) : Result :=
  let W := Alu.sub (s.busRead s.hl) 1#8 false
  .next (((s.busWrite s.hl W.val).setDecFlags W).finish 1 3)

/-- SCF (R240). -/
def execScf (s : State) : Result := .next ((s.setFlags s.fZ false false true).finish 1 1)

/-- INC A (R234). -/
def execInc_A (s : State) : Result := .next (s.incReg .A)

/-- DEC A (R236). -/
def execDec_A (s : State) : Result := .next (s.decReg .A)

/-- CCF (R241). -/
def execCcf (s : State) : Result := .next ((s.setFlags s.fZ false false !s.fC).finish 1 1)

/-- ADD A,B (R210). -/
def execAdd_A_B (s : State) : Result := .next (s.acc .add (s.reg .B) 1 1)

/-- ADD A,C (R210). -/
def execAdd_A_C (s : State) : Result := .next (s.acc .add (s.reg .C) 1 1)

/-- ADD A,D (R210). -/
def execAdd_A_D (s : State) : Result := .next (s.acc .add (s.reg .D) 1 1)

/-- ADD A,E (R210). -/
def execAdd_A_E (s : State) : Result := .next (s.acc .add (s.reg .E) 1 1)

/-- ADD A,H (R210). -/
def execAdd_A_H (s : State) : Result := .next (s.acc .add (s.reg .H) 1 1)

/-- ADD A,L (R210). -/
def execAdd_A_L (s : State) : Result := .next (s.acc .add (s.reg .L) 1 1)

/-- ADD A,(HL) (R212). -/
def execAdd_A_mHL (s : State) : Result := .next (s.acc .add (s.busRead s.hl) 1 2)

/-- ADD A,A (R210). -/
def execAdd_A_A (s : State) : Result := .next (s.acc .add (s.reg .A) 1 1)

/-- ADC A,B (R213). -/
def execAdc_A_B (s : State) : Result := .next (s.acc .adc (s.reg .B) 1 1)

/-- ADC A,C (R213). -/
def execAdc_A_C (s : State) : Result := .next (s.acc .adc (s.reg .C) 1 1)

/-- ADC A,D (R213). -/
def execAdc_A_D (s : State) : Result := .next (s.acc .adc (s.reg .D) 1 1)

/-- ADC A,E (R213). -/
def execAdc_A_E (s : State) : Result := .next (s.acc .adc (s.reg .E) 1 1)

/-- ADC A,H (R213). -/
def execAdc_A_H (s : State) : Result := .next (s.acc .adc (s.reg .H) 1 1)

/-- ADC A,L (R213). -/
def execAdc_A_L (s : State) : Result := .next (s.acc .adc (s.reg .L) 1 1)

/-- ADC A,(HL) (R215). -/
def execAdc_A_mHL (s : State) : Result := .next (s.acc .adc (s.busRead s.hl) 1 2)

/-- ADC A,A (R213). -/
def execAdc_A_A (s : State) : Result := .next (s.acc .adc (s.reg .A) 1 1)

/-- SUB B (R216). -/
def execSub_B (s : State) : Result := .next (s.acc .sub (s.reg .B) 1 1)

/-- SUB C (R216). -/
def execSub_C (s : State) : Result := .next (s.acc .sub (s.reg .C) 1 1)

/-- SUB D (R216). -/
def execSub_D (s : State) : Result := .next (s.acc .sub (s.reg .D) 1 1)

/-- SUB E (R216). -/
def execSub_E (s : State) : Result := .next (s.acc .sub (s.reg .E) 1 1)

/-- SUB H (R216). -/
def execSub_H (s : State) : Result := .next (s.acc .sub (s.reg .H) 1 1)

/-- SUB L (R216). -/
def execSub_L (s : State) : Result := .next (s.acc .sub (s.reg .L) 1 1)

/-- SUB (HL) (R218). -/
def execSub_mHL (s : State) : Result := .next (s.acc .sub (s.busRead s.hl) 1 2)

/-- SUB A (R216). -/
def execSub_A (s : State) : Result := .next (s.acc .sub (s.reg .A) 1 1)

/-- SBC A,B (R219). -/
def execSbc_A_B (s : State) : Result := .next (s.acc .sbc (s.reg .B) 1 1)

/-- SBC A,C (R219). -/
def execSbc_A_C (s : State) : Result := .next (s.acc .sbc (s.reg .C) 1 1)

/-- SBC A,D (R219). -/
def execSbc_A_D (s : State) : Result := .next (s.acc .sbc (s.reg .D) 1 1)

/-- SBC A,E (R219). -/
def execSbc_A_E (s : State) : Result := .next (s.acc .sbc (s.reg .E) 1 1)

/-- SBC A,H (R219). -/
def execSbc_A_H (s : State) : Result := .next (s.acc .sbc (s.reg .H) 1 1)

/-- SBC A,L (R219). -/
def execSbc_A_L (s : State) : Result := .next (s.acc .sbc (s.reg .L) 1 1)

/-- SBC A,(HL) (R221). -/
def execSbc_A_mHL (s : State) : Result := .next (s.acc .sbc (s.busRead s.hl) 1 2)

/-- SBC A,A (R219). -/
def execSbc_A_A (s : State) : Result := .next (s.acc .sbc (s.reg .A) 1 1)

/-- AND B (R222). -/
def execAnd_B (s : State) : Result := .next (s.acc .and (s.reg .B) 1 1)

/-- AND C (R222). -/
def execAnd_C (s : State) : Result := .next (s.acc .and (s.reg .C) 1 1)

/-- AND D (R222). -/
def execAnd_D (s : State) : Result := .next (s.acc .and (s.reg .D) 1 1)

/-- AND E (R222). -/
def execAnd_E (s : State) : Result := .next (s.acc .and (s.reg .E) 1 1)

/-- AND H (R222). -/
def execAnd_H (s : State) : Result := .next (s.acc .and (s.reg .H) 1 1)

/-- AND L (R222). -/
def execAnd_L (s : State) : Result := .next (s.acc .and (s.reg .L) 1 1)

/-- AND (HL) (R224). -/
def execAnd_mHL (s : State) : Result := .next (s.acc .and (s.busRead s.hl) 1 2)

/-- AND A (R222). -/
def execAnd_A (s : State) : Result := .next (s.acc .and (s.reg .A) 1 1)

/-- XOR B (R225). -/
def execXor_B (s : State) : Result := .next (s.acc .xor (s.reg .B) 1 1)

/-- XOR C (R225). -/
def execXor_C (s : State) : Result := .next (s.acc .xor (s.reg .C) 1 1)

/-- XOR D (R225). -/
def execXor_D (s : State) : Result := .next (s.acc .xor (s.reg .D) 1 1)

/-- XOR E (R225). -/
def execXor_E (s : State) : Result := .next (s.acc .xor (s.reg .E) 1 1)

/-- XOR H (R225). -/
def execXor_H (s : State) : Result := .next (s.acc .xor (s.reg .H) 1 1)

/-- XOR L (R225). -/
def execXor_L (s : State) : Result := .next (s.acc .xor (s.reg .L) 1 1)

/-- XOR (HL) (R227). -/
def execXor_mHL (s : State) : Result := .next (s.acc .xor (s.busRead s.hl) 1 2)

/-- XOR A (R225). -/
def execXor_A (s : State) : Result := .next (s.acc .xor (s.reg .A) 1 1)

/-- OR B (R228). -/
def execOr_B (s : State) : Result := .next (s.acc .or (s.reg .B) 1 1)

/-- OR C (R228). -/
def execOr_C (s : State) : Result := .next (s.acc .or (s.reg .C) 1 1)

/-- OR D (R228). -/
def execOr_D (s : State) : Result := .next (s.acc .or (s.reg .D) 1 1)

/-- OR E (R228). -/
def execOr_E (s : State) : Result := .next (s.acc .or (s.reg .E) 1 1)

/-- OR H (R228). -/
def execOr_H (s : State) : Result := .next (s.acc .or (s.reg .H) 1 1)

/-- OR L (R228). -/
def execOr_L (s : State) : Result := .next (s.acc .or (s.reg .L) 1 1)

/-- OR (HL) (R230). -/
def execOr_mHL (s : State) : Result := .next (s.acc .or (s.busRead s.hl) 1 2)

/-- OR A (R228). -/
def execOr_A (s : State) : Result := .next (s.acc .or (s.reg .A) 1 1)

/-- CP B (R231). -/
def execCp_B (s : State) : Result := .next (s.acc .cp (s.reg .B) 1 1)

/-- CP C (R231). -/
def execCp_C (s : State) : Result := .next (s.acc .cp (s.reg .C) 1 1)

/-- CP D (R231). -/
def execCp_D (s : State) : Result := .next (s.acc .cp (s.reg .D) 1 1)

/-- CP E (R231). -/
def execCp_E (s : State) : Result := .next (s.acc .cp (s.reg .E) 1 1)

/-- CP H (R231). -/
def execCp_H (s : State) : Result := .next (s.acc .cp (s.reg .H) 1 1)

/-- CP L (R231). -/
def execCp_L (s : State) : Result := .next (s.acc .cp (s.reg .L) 1 1)

/-- CP (HL) (R233). -/
def execCp_mHL (s : State) : Result := .next (s.acc .cp (s.busRead s.hl) 1 2)

/-- CP A (R231). -/
def execCp_A (s : State) : Result := .next (s.acc .cp (s.reg .A) 1 1)

/-- ADD A,n (R211). -/
def execAdd_A_n (n : Byte) (s : State) : Result := .next (s.acc .add n 2 2)

/-- ADC A,n (R214). -/
def execAdc_A_n (n : Byte) (s : State) : Result := .next (s.acc .adc n 2 2)

/-- SUB n (R217). -/
def execSub_n (n : Byte) (s : State) : Result := .next (s.acc .sub n 2 2)

/-- SBC A,n (R220). -/
def execSbc_A_n (n : Byte) (s : State) : Result := .next (s.acc .sbc n 2 2)

/-- AND n (R223). -/
def execAnd_n (n : Byte) (s : State) : Result := .next (s.acc .and n 2 2)

/-- XOR n (R226). -/
def execXor_n (n : Byte) (s : State) : Result := .next (s.acc .xor n 2 2)

/-- OR n (R229). -/
def execOr_n (n : Byte) (s : State) : Result := .next (s.acc .or n 2 2)

/-- CP n (R232). -/
def execCp_n (n : Byte) (s : State) : Result := .next (s.acc .cp n 2 2)

end Sys2Proof.Machine
end

