-- ==== Sys2Proof/Machine/Control.lean ====
section
/-! DEFINITION. Jumps, calls and returns (46_control.md). The cycles are those of 30_encoding.md R112, with the extra
ones when a condition holds. -/

namespace Sys2Proof.Machine

open Sys2Proof

/-! ## Shared -/

/-- The target of a relative jump, `(PCnext + sext_16(e)) mod 65536` (R293). -/
def State.relative (s : State) (e : Byte) : Word := s.pcNext 2 + sext16 e

/-- `push16(PCnext); PC <- target` (R295, R296, R300). -/
def State.callTo (s : State) (target : Word) (len cycles : Nat) : State :=
  (s.push16 (s.pcNext len)).jump target cycles

/-- `PC <- pop16()` (R297, R298). -/
def State.returnTo (s : State) (cycles : Nat) : State := s.drop16.jump s.top16 cycles

/-- JP cc,nn (R291). -/
def State.jumpIf (s : State) (cc : Cond) (nn : Word) : State := if s.cond cc then s.jump nn 4 else s.finish 3 3

/-- JR cc,e (R294). -/
def State.relativeIf (s : State) (cc : Cond) (e : Byte) : State :=
  if s.cond cc then s.jump (s.relative e) 3 else s.finish 2 2

/-- CALL cc,nn (R296): nothing is pushed when the condition is false. -/
def State.callIf (s : State) (cc : Cond) (nn : Word) : State := if s.cond cc then s.callTo nn 3 6 else s.finish 3 3

/-- RET cc (R298): the stack is not read when the condition is false. -/
def State.returnIf (s : State) (cc : Cond) : State := if s.cond cc then s.returnTo 5 else s.finish 1 2

/-! ## The instructions -/

/-- JR e (R293). -/
def execJr_e (e : Byte) (s : State) : Result := .next (s.jump (s.relative e) 3)

/-- JR NZ,e (R294). -/
def execJr_NZ_e (e : Byte) (s : State) : Result := .next (s.relativeIf .NZ e)

/-- JR Z,e (R294). -/
def execJr_Z_e (e : Byte) (s : State) : Result := .next (s.relativeIf .Z e)

/-- JR NC,e (R294). -/
def execJr_NC_e (e : Byte) (s : State) : Result := .next (s.relativeIf .NC e)

/-- JR C,e (R294). -/
def execJr_C_e (e : Byte) (s : State) : Result := .next (s.relativeIf .C e)

/-- RET NZ (R298). -/
def execRet_NZ (s : State) : Result := .next (s.returnIf .NZ)

/-- JP NZ,nn (R291). -/
def execJp_NZ_nn (nn : Word) (s : State) : Result := .next (s.jumpIf .NZ nn)

/-- JP nn (R290). -/
def execJp_nn (nn : Word) (s : State) : Result := .next (s.jump nn 4)

/-- CALL NZ,nn (R296). -/
def execCall_NZ_nn (nn : Word) (s : State) : Result := .next (s.callIf .NZ nn)

/-- RST 0x00 (R300). -/
def execRst_00 (s : State) : Result := .next (s.callTo 0x0000#16 1 4)

/-- RET Z (R298). -/
def execRet_Z (s : State) : Result := .next (s.returnIf .Z)

/-- RET (R297). -/
def execRet (s : State) : Result := .next (s.returnTo 4)

/-- JP Z,nn (R291). -/
def execJp_Z_nn (nn : Word) (s : State) : Result := .next (s.jumpIf .Z nn)

/-- CALL Z,nn (R296). -/
def execCall_Z_nn (nn : Word) (s : State) : Result := .next (s.callIf .Z nn)

/-- CALL nn (R295). -/
def execCall_nn (nn : Word) (s : State) : Result := .next (s.callTo nn 3 6)

/-- RST 0x08 (R300). -/
def execRst_08 (s : State) : Result := .next (s.callTo 0x0008#16 1 4)

/-- RET NC (R298). -/
def execRet_NC (s : State) : Result := .next (s.returnIf .NC)

/-- JP NC,nn (R291). -/
def execJp_NC_nn (nn : Word) (s : State) : Result := .next (s.jumpIf .NC nn)

/-- CALL NC,nn (R296). -/
def execCall_NC_nn (nn : Word) (s : State) : Result := .next (s.callIf .NC nn)

/-- RST 0x10 (R300). -/
def execRst_10 (s : State) : Result := .next (s.callTo 0x0010#16 1 4)

/-- RET C (R298). -/
def execRet_C (s : State) : Result := .next (s.returnIf .C)

/-- RETI (R299). -/
def execReti (s : State) : Result := .next (s.returnFromInterrupt 4)

/-- JP C,nn (R291). -/
def execJp_C_nn (nn : Word) (s : State) : Result := .next (s.jumpIf .C nn)

/-- CALL C,nn (R296). -/
def execCall_C_nn (nn : Word) (s : State) : Result := .next (s.callIf .C nn)

/-- RST 0x18 (R300). -/
def execRst_18 (s : State) : Result := .next (s.callTo 0x0018#16 1 4)

/-- RST 0x20 (R300). -/
def execRst_20 (s : State) : Result := .next (s.callTo 0x0020#16 1 4)

/-- JP HL (R292). -/
def execJp_HL (s : State) : Result := .next (s.jump s.hl 1)

/-- RST 0x28 (R300). -/
def execRst_28 (s : State) : Result := .next (s.callTo 0x0028#16 1 4)

/-- RST 0x30 (R300). -/
def execRst_30 (s : State) : Result := .next (s.callTo 0x0030#16 1 4)

/-- RST 0x38 (R300). -/
def execRst_38 (s : State) : Result := .next (s.callTo 0x0038#16 1 4)

end Sys2Proof.Machine
end

