-- ==== Sys2Proof/Machine/Load8.lean ====
section
/-! DEFINITION. The 8-bit loads and stores (41_load8.md). No flag changes. The opcodes, lengths and cycles are those
of 30_encoding.md R111 and R112. -/

namespace Sys2Proof.Machine

open Sys2Proof

/-! ## Shared -/

/-- `x[r] <- v`. -/
def State.loadReg (s : State) (r : Reg8) (v : Byte) (len cycles : Nat) : State := (s.setReg r v).finish len cycles

/-- `MemWrite(a, 1, v)`. -/
def State.storeByte (s : State) (a : Word) (v : Byte) (len cycles : Nat) : State := (s.busWrite a v).finish len cycles

/-- `A <- MemRead(HL, 1); HL <- hl'` (R175, R176). -/
def State.loadThenHL (s : State) (hl' : Word) : State := ((s.setReg .A (s.busRead s.hl)).setHL hl').finish 1 2

/-- `MemWrite(HL, 1, A); HL <- hl'` (R177, R178). -/
def State.storeThenHL (s : State) (hl' : Word) : State := ((s.busWrite s.hl (s.reg .A)).setHL hl').finish 1 2

/-! ## The instructions -/

/-- LD (BC),A (R167). -/
def execLd_mBC_A (s : State) : Result := .next (s.storeByte s.bc (s.reg .A) 1 2)

/-- LD B,n (R161). -/
def execLd_B_n (n : Byte) (s : State) : Result := .next (s.loadReg .B n 2 2)

/-- LD A,(BC) (R165). -/
def execLd_A_mBC (s : State) : Result := .next (s.loadReg .A (s.busRead s.bc) 1 2)

/-- LD C,n (R161). -/
def execLd_C_n (n : Byte) (s : State) : Result := .next (s.loadReg .C n 2 2)

/-- LD (DE),A (R168). -/
def execLd_mDE_A (s : State) : Result := .next (s.storeByte s.de (s.reg .A) 1 2)

/-- LD D,n (R161). -/
def execLd_D_n (n : Byte) (s : State) : Result := .next (s.loadReg .D n 2 2)

/-- LD A,(DE) (R166). -/
def execLd_A_mDE (s : State) : Result := .next (s.loadReg .A (s.busRead s.de) 1 2)

/-- LD E,n (R161). -/
def execLd_E_n (n : Byte) (s : State) : Result := .next (s.loadReg .E n 2 2)

/-- LD (HL+),A (R177). -/
def execLd_mHLi_A (s : State) : Result := .next (s.storeThenHL (s.hl + 1))

/-- LD H,n (R161). -/
def execLd_H_n (n : Byte) (s : State) : Result := .next (s.loadReg .H n 2 2)

/-- LD A,(HL+) (R175). -/
def execLd_A_mHLi (s : State) : Result := .next (s.loadThenHL (s.hl + 1))

/-- LD L,n (R161). -/
def execLd_L_n (n : Byte) (s : State) : Result := .next (s.loadReg .L n 2 2)

/-- LD (HL-),A (R178). -/
def execLd_mHLd_A (s : State) : Result := .next (s.storeThenHL (s.hl - 1))

/-- LD (HL),n (R164). -/
def execLd_mHL_n (n : Byte) (s : State) : Result := .next (s.storeByte s.hl n 2 3)

/-- LD A,(HL-) (R176). -/
def execLd_A_mHLd (s : State) : Result := .next (s.loadThenHL (s.hl - 1))

/-- LD A,n (R161). -/
def execLd_A_n (n : Byte) (s : State) : Result := .next (s.loadReg .A n 2 2)

/-- LD B,B (R160). -/
def execLd_B_B (s : State) : Result := .next (s.loadReg .B (s.reg .B) 1 1)

/-- LD B,C (R160). -/
def execLd_B_C (s : State) : Result := .next (s.loadReg .B (s.reg .C) 1 1)

/-- LD B,D (R160). -/
def execLd_B_D (s : State) : Result := .next (s.loadReg .B (s.reg .D) 1 1)

/-- LD B,E (R160). -/
def execLd_B_E (s : State) : Result := .next (s.loadReg .B (s.reg .E) 1 1)

/-- LD B,H (R160). -/
def execLd_B_H (s : State) : Result := .next (s.loadReg .B (s.reg .H) 1 1)

/-- LD B,L (R160). -/
def execLd_B_L (s : State) : Result := .next (s.loadReg .B (s.reg .L) 1 1)

/-- LD B,(HL) (R162). -/
def execLd_B_mHL (s : State) : Result := .next (s.loadReg .B (s.busRead s.hl) 1 2)

/-- LD B,A (R160). -/
def execLd_B_A (s : State) : Result := .next (s.loadReg .B (s.reg .A) 1 1)

/-- LD C,B (R160). -/
def execLd_C_B (s : State) : Result := .next (s.loadReg .C (s.reg .B) 1 1)

/-- LD C,C (R160). -/
def execLd_C_C (s : State) : Result := .next (s.loadReg .C (s.reg .C) 1 1)

/-- LD C,D (R160). -/
def execLd_C_D (s : State) : Result := .next (s.loadReg .C (s.reg .D) 1 1)

/-- LD C,E (R160). -/
def execLd_C_E (s : State) : Result := .next (s.loadReg .C (s.reg .E) 1 1)

/-- LD C,H (R160). -/
def execLd_C_H (s : State) : Result := .next (s.loadReg .C (s.reg .H) 1 1)

/-- LD C,L (R160). -/
def execLd_C_L (s : State) : Result := .next (s.loadReg .C (s.reg .L) 1 1)

/-- LD C,(HL) (R162). -/
def execLd_C_mHL (s : State) : Result := .next (s.loadReg .C (s.busRead s.hl) 1 2)

/-- LD C,A (R160). -/
def execLd_C_A (s : State) : Result := .next (s.loadReg .C (s.reg .A) 1 1)

/-- LD D,B (R160). -/
def execLd_D_B (s : State) : Result := .next (s.loadReg .D (s.reg .B) 1 1)

/-- LD D,C (R160). -/
def execLd_D_C (s : State) : Result := .next (s.loadReg .D (s.reg .C) 1 1)

/-- LD D,D (R160). -/
def execLd_D_D (s : State) : Result := .next (s.loadReg .D (s.reg .D) 1 1)

/-- LD D,E (R160). -/
def execLd_D_E (s : State) : Result := .next (s.loadReg .D (s.reg .E) 1 1)

/-- LD D,H (R160). -/
def execLd_D_H (s : State) : Result := .next (s.loadReg .D (s.reg .H) 1 1)

/-- LD D,L (R160). -/
def execLd_D_L (s : State) : Result := .next (s.loadReg .D (s.reg .L) 1 1)

/-- LD D,(HL) (R162). -/
def execLd_D_mHL (s : State) : Result := .next (s.loadReg .D (s.busRead s.hl) 1 2)

/-- LD D,A (R160). -/
def execLd_D_A (s : State) : Result := .next (s.loadReg .D (s.reg .A) 1 1)

/-- LD E,B (R160). -/
def execLd_E_B (s : State) : Result := .next (s.loadReg .E (s.reg .B) 1 1)

/-- LD E,C (R160). -/
def execLd_E_C (s : State) : Result := .next (s.loadReg .E (s.reg .C) 1 1)

/-- LD E,D (R160). -/
def execLd_E_D (s : State) : Result := .next (s.loadReg .E (s.reg .D) 1 1)

/-- LD E,E (R160). -/
def execLd_E_E (s : State) : Result := .next (s.loadReg .E (s.reg .E) 1 1)

/-- LD E,H (R160). -/
def execLd_E_H (s : State) : Result := .next (s.loadReg .E (s.reg .H) 1 1)

/-- LD E,L (R160). -/
def execLd_E_L (s : State) : Result := .next (s.loadReg .E (s.reg .L) 1 1)

/-- LD E,(HL) (R162). -/
def execLd_E_mHL (s : State) : Result := .next (s.loadReg .E (s.busRead s.hl) 1 2)

/-- LD E,A (R160). -/
def execLd_E_A (s : State) : Result := .next (s.loadReg .E (s.reg .A) 1 1)

/-- LD H,B (R160). -/
def execLd_H_B (s : State) : Result := .next (s.loadReg .H (s.reg .B) 1 1)

/-- LD H,C (R160). -/
def execLd_H_C (s : State) : Result := .next (s.loadReg .H (s.reg .C) 1 1)

/-- LD H,D (R160). -/
def execLd_H_D (s : State) : Result := .next (s.loadReg .H (s.reg .D) 1 1)

/-- LD H,E (R160). -/
def execLd_H_E (s : State) : Result := .next (s.loadReg .H (s.reg .E) 1 1)

/-- LD H,H (R160). -/
def execLd_H_H (s : State) : Result := .next (s.loadReg .H (s.reg .H) 1 1)

/-- LD H,L (R160). -/
def execLd_H_L (s : State) : Result := .next (s.loadReg .H (s.reg .L) 1 1)

/-- LD H,(HL) (R162). -/
def execLd_H_mHL (s : State) : Result := .next (s.loadReg .H (s.busRead s.hl) 1 2)

/-- LD H,A (R160). -/
def execLd_H_A (s : State) : Result := .next (s.loadReg .H (s.reg .A) 1 1)

/-- LD L,B (R160). -/
def execLd_L_B (s : State) : Result := .next (s.loadReg .L (s.reg .B) 1 1)

/-- LD L,C (R160). -/
def execLd_L_C (s : State) : Result := .next (s.loadReg .L (s.reg .C) 1 1)

/-- LD L,D (R160). -/
def execLd_L_D (s : State) : Result := .next (s.loadReg .L (s.reg .D) 1 1)

/-- LD L,E (R160). -/
def execLd_L_E (s : State) : Result := .next (s.loadReg .L (s.reg .E) 1 1)

/-- LD L,H (R160). -/
def execLd_L_H (s : State) : Result := .next (s.loadReg .L (s.reg .H) 1 1)

/-- LD L,L (R160). -/
def execLd_L_L (s : State) : Result := .next (s.loadReg .L (s.reg .L) 1 1)

/-- LD L,(HL) (R162). -/
def execLd_L_mHL (s : State) : Result := .next (s.loadReg .L (s.busRead s.hl) 1 2)

/-- LD L,A (R160). -/
def execLd_L_A (s : State) : Result := .next (s.loadReg .L (s.reg .A) 1 1)

/-- LD (HL),B (R163). -/
def execLd_mHL_B (s : State) : Result := .next (s.storeByte s.hl (s.reg .B) 1 2)

/-- LD (HL),C (R163). -/
def execLd_mHL_C (s : State) : Result := .next (s.storeByte s.hl (s.reg .C) 1 2)

/-- LD (HL),D (R163). -/
def execLd_mHL_D (s : State) : Result := .next (s.storeByte s.hl (s.reg .D) 1 2)

/-- LD (HL),E (R163). -/
def execLd_mHL_E (s : State) : Result := .next (s.storeByte s.hl (s.reg .E) 1 2)

/-- LD (HL),H (R163). -/
def execLd_mHL_H (s : State) : Result := .next (s.storeByte s.hl (s.reg .H) 1 2)

/-- LD (HL),L (R163). -/
def execLd_mHL_L (s : State) : Result := .next (s.storeByte s.hl (s.reg .L) 1 2)

/-- LD (HL),A (R163). -/
def execLd_mHL_A (s : State) : Result := .next (s.storeByte s.hl (s.reg .A) 1 2)

/-- LD A,B (R160). -/
def execLd_A_B (s : State) : Result := .next (s.loadReg .A (s.reg .B) 1 1)

/-- LD A,C (R160). -/
def execLd_A_C (s : State) : Result := .next (s.loadReg .A (s.reg .C) 1 1)

/-- LD A,D (R160). -/
def execLd_A_D (s : State) : Result := .next (s.loadReg .A (s.reg .D) 1 1)

/-- LD A,E (R160). -/
def execLd_A_E (s : State) : Result := .next (s.loadReg .A (s.reg .E) 1 1)

/-- LD A,H (R160). -/
def execLd_A_H (s : State) : Result := .next (s.loadReg .A (s.reg .H) 1 1)

/-- LD A,L (R160). -/
def execLd_A_L (s : State) : Result := .next (s.loadReg .A (s.reg .L) 1 1)

/-- LD A,(HL) (R162). -/
def execLd_A_mHL (s : State) : Result := .next (s.loadReg .A (s.busRead s.hl) 1 2)

/-- LD A,A (R160). -/
def execLd_A_A (s : State) : Result := .next (s.loadReg .A (s.reg .A) 1 1)

/-- LDH (n),A (R172). -/
def execLdh_mn_A (n : Byte) (s : State) : Result := .next (s.storeByte (highPage n) (s.reg .A) 2 3)

/-- LD (C),A (R174). -/
def execLd_mC_A (s : State) : Result := .next (s.storeByte (highPage (s.reg .C)) (s.reg .A) 1 2)

/-- LD (nn),A (R170). -/
def execLd_mnn_A (nn : Word) (s : State) : Result := .next (s.storeByte nn (s.reg .A) 3 4)

/-- LDH A,(n) (R171). -/
def execLdh_A_mn (n : Byte) (s : State) : Result := .next (s.loadReg .A (s.busRead (highPage n)) 2 3)

/-- LD A,(C) (R173). -/
def execLd_A_mC (s : State) : Result := .next (s.loadReg .A (s.busRead (highPage (s.reg .C))) 1 2)

/-- LD A,(nn) (R169). -/
def execLd_A_mnn (nn : Word) (s : State) : Result := .next (s.loadReg .A (s.busRead nn) 3 4)

end Sys2Proof.Machine
end

