-- ==== Sys2Proof/Machine/Rotate.lean ====
section
/-! DEFINITION. Rotates, shifts, swap and the bit instructions (45_rotate_shift_bit.md). -/

namespace Sys2Proof.Machine

open Sys2Proof

/-! ## Shared -/

/-- A one-byte rotate of A: Z is forced to 0 (R260 to R263). -/
def State.rotateA (s : State) (W : AluWord 8) : State :=
  ((s.setReg .A W.val).setFlags false false false W.cf).finish 1 1

/-- The word a prefixed rotate, shift or swap computes (R264 to R279). -/
def State.rotWord (s : State) (op : RotOp) (v : Byte) : AluWord 8 :=
  match op with
  | .rlc => Alu.rotate .left v
  | .rrc => Alu.rotate .right v
  | .rl => Alu.rotateC .left v s.fC
  | .rr => Alu.rotateC .right v s.fC
  | .sla => Alu.shiftLeft v
  | .sra => Alu.shiftRightA v
  | .swap => Alu.swap v
  | .srl => Alu.shiftRightL v

/-- The register form: `x[r] <- val(W); F <- flg(W)`. -/
def State.rotReg (s : State) (op : RotOp) (r : Reg8) : State :=
  let W := s.rotWord op (s.reg r)
  ((s.setReg r W.val).setF W.flg).finish 2 2

/-- The (HL) form: one read, then one write of the same address. -/
def State.rotMem (s : State) (op : RotOp) : State :=
  let W := s.rotWord op (s.busRead s.hl)
  ((s.busWrite s.hl W.val).setF W.flg).finish 2 4

/-- BIT b of a byte: `F <- flags(zf(W), 0, 1, fC)` (R280, R281). -/
def State.bitTest (s : State) (b : Fin 8) (v : Byte) (cycles : Nat) : State :=
  (s.setFlags (Alu.testBit v b).zf false true s.fC).finish 2 cycles

/-- `v & ~(1 << b)` (R282). -/
def clearBit (v : Byte) (b : Fin 8) : Byte := v &&& ~~~(1#8 <<< b.val)

/-- `v | (1 << b)` (R284). -/
def setBit (v : Byte) (b : Fin 8) : Byte := v ||| (1#8 <<< b.val)

/-- `x[r] <- v` of RES and SET: no flag changes (R282, R284). -/
def State.bitReg (s : State) (r : Reg8) (v : Byte) : State := (s.setReg r v).finish 2 2

/-- `MemWrite(HL, 1, v)` of RES and SET (R283, R285). -/
def State.bitMem (s : State) (v : Byte) : State := (s.busWrite s.hl v).finish 2 4

/-! ## The instructions -/

/-- RLCA (R260). -/
def execRlca (s : State) : Result := .next (s.rotateA (Alu.rotate .left (s.reg .A)))

/-- RRCA (R261). -/
def execRrca (s : State) : Result := .next (s.rotateA (Alu.rotate .right (s.reg .A)))

/-- RLA (R262). -/
def execRla (s : State) : Result := .next (s.rotateA (Alu.rotateC .left (s.reg .A) s.fC))

/-- RRA (R263). -/
def execRra (s : State) : Result := .next (s.rotateA (Alu.rotateC .right (s.reg .A) s.fC))

/-- RLC B (R264). -/
def execRlc_B (s : State) : Result := .next (s.rotReg .rlc .B)

/-- RLC C (R264). -/
def execRlc_C (s : State) : Result := .next (s.rotReg .rlc .C)

/-- RLC D (R264). -/
def execRlc_D (s : State) : Result := .next (s.rotReg .rlc .D)

/-- RLC E (R264). -/
def execRlc_E (s : State) : Result := .next (s.rotReg .rlc .E)

/-- RLC H (R264). -/
def execRlc_H (s : State) : Result := .next (s.rotReg .rlc .H)

/-- RLC L (R264). -/
def execRlc_L (s : State) : Result := .next (s.rotReg .rlc .L)

/-- RLC (HL) (R265). -/
def execRlc_mHL (s : State) : Result := .next (s.rotMem .rlc)

/-- RLC A (R264). -/
def execRlc_A (s : State) : Result := .next (s.rotReg .rlc .A)

/-- RRC B (R266). -/
def execRrc_B (s : State) : Result := .next (s.rotReg .rrc .B)

/-- RRC C (R266). -/
def execRrc_C (s : State) : Result := .next (s.rotReg .rrc .C)

/-- RRC D (R266). -/
def execRrc_D (s : State) : Result := .next (s.rotReg .rrc .D)

/-- RRC E (R266). -/
def execRrc_E (s : State) : Result := .next (s.rotReg .rrc .E)

/-- RRC H (R266). -/
def execRrc_H (s : State) : Result := .next (s.rotReg .rrc .H)

/-- RRC L (R266). -/
def execRrc_L (s : State) : Result := .next (s.rotReg .rrc .L)

/-- RRC (HL) (R267). -/
def execRrc_mHL (s : State) : Result := .next (s.rotMem .rrc)

/-- RRC A (R266). -/
def execRrc_A (s : State) : Result := .next (s.rotReg .rrc .A)

/-- RL B (R268). -/
def execRl_B (s : State) : Result := .next (s.rotReg .rl .B)

/-- RL C (R268). -/
def execRl_C (s : State) : Result := .next (s.rotReg .rl .C)

/-- RL D (R268). -/
def execRl_D (s : State) : Result := .next (s.rotReg .rl .D)

/-- RL E (R268). -/
def execRl_E (s : State) : Result := .next (s.rotReg .rl .E)

/-- RL H (R268). -/
def execRl_H (s : State) : Result := .next (s.rotReg .rl .H)

/-- RL L (R268). -/
def execRl_L (s : State) : Result := .next (s.rotReg .rl .L)

/-- RL (HL) (R269). -/
def execRl_mHL (s : State) : Result := .next (s.rotMem .rl)

/-- RL A (R268). -/
def execRl_A (s : State) : Result := .next (s.rotReg .rl .A)

/-- RR B (R270). -/
def execRr_B (s : State) : Result := .next (s.rotReg .rr .B)

/-- RR C (R270). -/
def execRr_C (s : State) : Result := .next (s.rotReg .rr .C)

/-- RR D (R270). -/
def execRr_D (s : State) : Result := .next (s.rotReg .rr .D)

/-- RR E (R270). -/
def execRr_E (s : State) : Result := .next (s.rotReg .rr .E)

/-- RR H (R270). -/
def execRr_H (s : State) : Result := .next (s.rotReg .rr .H)

/-- RR L (R270). -/
def execRr_L (s : State) : Result := .next (s.rotReg .rr .L)

/-- RR (HL) (R271). -/
def execRr_mHL (s : State) : Result := .next (s.rotMem .rr)

/-- RR A (R270). -/
def execRr_A (s : State) : Result := .next (s.rotReg .rr .A)

/-- SLA B (R272). -/
def execSla_B (s : State) : Result := .next (s.rotReg .sla .B)

/-- SLA C (R272). -/
def execSla_C (s : State) : Result := .next (s.rotReg .sla .C)

/-- SLA D (R272). -/
def execSla_D (s : State) : Result := .next (s.rotReg .sla .D)

/-- SLA E (R272). -/
def execSla_E (s : State) : Result := .next (s.rotReg .sla .E)

/-- SLA H (R272). -/
def execSla_H (s : State) : Result := .next (s.rotReg .sla .H)

/-- SLA L (R272). -/
def execSla_L (s : State) : Result := .next (s.rotReg .sla .L)

/-- SLA (HL) (R273). -/
def execSla_mHL (s : State) : Result := .next (s.rotMem .sla)

/-- SLA A (R272). -/
def execSla_A (s : State) : Result := .next (s.rotReg .sla .A)

/-- SRA B (R274). -/
def execSra_B (s : State) : Result := .next (s.rotReg .sra .B)

/-- SRA C (R274). -/
def execSra_C (s : State) : Result := .next (s.rotReg .sra .C)

/-- SRA D (R274). -/
def execSra_D (s : State) : Result := .next (s.rotReg .sra .D)

/-- SRA E (R274). -/
def execSra_E (s : State) : Result := .next (s.rotReg .sra .E)

/-- SRA H (R274). -/
def execSra_H (s : State) : Result := .next (s.rotReg .sra .H)

/-- SRA L (R274). -/
def execSra_L (s : State) : Result := .next (s.rotReg .sra .L)

/-- SRA (HL) (R275). -/
def execSra_mHL (s : State) : Result := .next (s.rotMem .sra)

/-- SRA A (R274). -/
def execSra_A (s : State) : Result := .next (s.rotReg .sra .A)

/-- SWAP B (R276). -/
def execSwap_B (s : State) : Result := .next (s.rotReg .swap .B)

/-- SWAP C (R276). -/
def execSwap_C (s : State) : Result := .next (s.rotReg .swap .C)

/-- SWAP D (R276). -/
def execSwap_D (s : State) : Result := .next (s.rotReg .swap .D)

/-- SWAP E (R276). -/
def execSwap_E (s : State) : Result := .next (s.rotReg .swap .E)

/-- SWAP H (R276). -/
def execSwap_H (s : State) : Result := .next (s.rotReg .swap .H)

/-- SWAP L (R276). -/
def execSwap_L (s : State) : Result := .next (s.rotReg .swap .L)

/-- SWAP (HL) (R277). -/
def execSwap_mHL (s : State) : Result := .next (s.rotMem .swap)

/-- SWAP A (R276). -/
def execSwap_A (s : State) : Result := .next (s.rotReg .swap .A)

/-- SRL B (R278). -/
def execSrl_B (s : State) : Result := .next (s.rotReg .srl .B)

/-- SRL C (R278). -/
def execSrl_C (s : State) : Result := .next (s.rotReg .srl .C)

/-- SRL D (R278). -/
def execSrl_D (s : State) : Result := .next (s.rotReg .srl .D)

/-- SRL E (R278). -/
def execSrl_E (s : State) : Result := .next (s.rotReg .srl .E)

/-- SRL H (R278). -/
def execSrl_H (s : State) : Result := .next (s.rotReg .srl .H)

/-- SRL L (R278). -/
def execSrl_L (s : State) : Result := .next (s.rotReg .srl .L)

/-- SRL (HL) (R279). -/
def execSrl_mHL (s : State) : Result := .next (s.rotMem .srl)

/-- SRL A (R278). -/
def execSrl_A (s : State) : Result := .next (s.rotReg .srl .A)

/-- BIT b,B (R280). -/
def execBit_b_B (b : Fin 8) (s : State) : Result := .next (s.bitTest b (s.reg .B) 2)

/-- BIT b,C (R280). -/
def execBit_b_C (b : Fin 8) (s : State) : Result := .next (s.bitTest b (s.reg .C) 2)

/-- BIT b,D (R280). -/
def execBit_b_D (b : Fin 8) (s : State) : Result := .next (s.bitTest b (s.reg .D) 2)

/-- BIT b,E (R280). -/
def execBit_b_E (b : Fin 8) (s : State) : Result := .next (s.bitTest b (s.reg .E) 2)

/-- BIT b,H (R280). -/
def execBit_b_H (b : Fin 8) (s : State) : Result := .next (s.bitTest b (s.reg .H) 2)

/-- BIT b,L (R280). -/
def execBit_b_L (b : Fin 8) (s : State) : Result := .next (s.bitTest b (s.reg .L) 2)

/-- BIT b,(HL) (R281). -/
def execBit_b_mHL (b : Fin 8) (s : State) : Result := .next (s.bitTest b (s.busRead s.hl) 3)

/-- BIT b,A (R280). -/
def execBit_b_A (b : Fin 8) (s : State) : Result := .next (s.bitTest b (s.reg .A) 2)

/-- RES b,B (R282). -/
def execRes_b_B (b : Fin 8) (s : State) : Result := .next (s.bitReg .B (clearBit (s.reg .B) b))

/-- RES b,C (R282). -/
def execRes_b_C (b : Fin 8) (s : State) : Result := .next (s.bitReg .C (clearBit (s.reg .C) b))

/-- RES b,D (R282). -/
def execRes_b_D (b : Fin 8) (s : State) : Result := .next (s.bitReg .D (clearBit (s.reg .D) b))

/-- RES b,E (R282). -/
def execRes_b_E (b : Fin 8) (s : State) : Result := .next (s.bitReg .E (clearBit (s.reg .E) b))

/-- RES b,H (R282). -/
def execRes_b_H (b : Fin 8) (s : State) : Result := .next (s.bitReg .H (clearBit (s.reg .H) b))

/-- RES b,L (R282). -/
def execRes_b_L (b : Fin 8) (s : State) : Result := .next (s.bitReg .L (clearBit (s.reg .L) b))

/-- RES b,(HL) (R283). -/
def execRes_b_mHL (b : Fin 8) (s : State) : Result := .next (s.bitMem (clearBit (s.busRead s.hl) b))

/-- RES b,A (R282). -/
def execRes_b_A (b : Fin 8) (s : State) : Result := .next (s.bitReg .A (clearBit (s.reg .A) b))

/-- SET b,B (R284). -/
def execSet_b_B (b : Fin 8) (s : State) : Result := .next (s.bitReg .B (setBit (s.reg .B) b))

/-- SET b,C (R284). -/
def execSet_b_C (b : Fin 8) (s : State) : Result := .next (s.bitReg .C (setBit (s.reg .C) b))

/-- SET b,D (R284). -/
def execSet_b_D (b : Fin 8) (s : State) : Result := .next (s.bitReg .D (setBit (s.reg .D) b))

/-- SET b,E (R284). -/
def execSet_b_E (b : Fin 8) (s : State) : Result := .next (s.bitReg .E (setBit (s.reg .E) b))

/-- SET b,H (R284). -/
def execSet_b_H (b : Fin 8) (s : State) : Result := .next (s.bitReg .H (setBit (s.reg .H) b))

/-- SET b,L (R284). -/
def execSet_b_L (b : Fin 8) (s : State) : Result := .next (s.bitReg .L (setBit (s.reg .L) b))

/-- SET b,(HL) (R285). -/
def execSet_b_mHL (b : Fin 8) (s : State) : Result := .next (s.bitMem (setBit (s.busRead s.hl) b))

/-- SET b,A (R284). -/
def execSet_b_A (b : Fin 8) (s : State) : Result := .next (s.bitReg .A (setBit (s.reg .A) b))

end Sys2Proof.Machine
end

