-- ==== Sys2Proof/Machine/System.lean ====
section
/-! DEFINITION. The system instructions, the undefined encodings and the escape byte (47_system.md, 30_encoding.md
R103). -/

namespace Sys2Proof.Machine

open Sys2Proof

/-! ## Shared -/

/-- `raise Fatal(IllegalOpcode, op, PC)` (R315): PC still addresses the byte and nothing has changed. -/
def State.fatalIllegal (s : State) (op : Byte) : Result := .fault (.illegalOpcode op s.pc)

/-- `raise Fatal(Stop, 0x10, PC)` (R313). -/
def State.fatalStop (s : State) : Result := .fault (.stop 0x10#8 s.pc)

/-- The prefixed instruction that the byte after the escape byte selects, by its fields (30_encoding.md R115). -/
def State.prefixed (s : State) (op2 : Byte) : State :=
  let y := fieldY op2
  let b := literalOfY y
  match fieldX op2, operand8 (fieldZ op2) with
  | 0, .reg r => s.rotReg (rotOfY y) r
  | 0, .atHL => s.rotMem (rotOfY y)
  | 1, .reg r => s.bitTest b (s.reg r) 2
  | 1, .atHL => s.bitTest b (s.busRead s.hl) 3
  | 2, .reg r => s.bitReg r (clearBit (s.reg r) b)
  | 2, .atHL => s.bitMem (clearBit (s.busRead s.hl) b)
  | _, .reg r => s.bitReg r (setBit (s.reg r) b)
  | _, .atHL => s.bitMem (setBit (s.busRead s.hl) b)

/-! ## The instructions -/

/-- NOP (R310). -/
def execNop (s : State) : Result := .next (s.finish 1 1)

/-- STOP (R313). -/
def execStop (s : State) : Result := s.fatalStop

/-- HALT (R312). -/
def execHalt (s : State) : Result := .next { s with pc := s.pcNext 1, cpuNext := .idle }

/-- The escape byte with the byte `op2` after it (30_encoding.md R103): the prefixed instruction that `op2` selects. The
decoder never answers this constructor (log entry 7). -/
def execEscape (op2 : Byte) (s : State) : Result := .next (s.prefixed op2)

/-- ILLEGAL_D3 (R315). -/
def execIllegal_D3 (s : State) : Result := s.fatalIllegal 0xD3#8

/-- ILLEGAL_DB (R315). -/
def execIllegal_DB (s : State) : Result := s.fatalIllegal 0xDB#8

/-- ILLEGAL_DD (R315). -/
def execIllegal_DD (s : State) : Result := s.fatalIllegal 0xDD#8

/-- ILLEGAL_E3 (R315). -/
def execIllegal_E3 (s : State) : Result := s.fatalIllegal 0xE3#8

/-- ILLEGAL_E4 (R315). -/
def execIllegal_E4 (s : State) : Result := s.fatalIllegal 0xE4#8

/-- ILLEGAL_EB (R315). -/
def execIllegal_EB (s : State) : Result := s.fatalIllegal 0xEB#8

/-- ILLEGAL_EC (R315). -/
def execIllegal_EC (s : State) : Result := s.fatalIllegal 0xEC#8

/-- ILLEGAL_ED (R315). -/
def execIllegal_ED (s : State) : Result := s.fatalIllegal 0xED#8

/-- DI (R311). -/
def execDi (s : State) : Result := .next ({ s with ime := false }.finish 1 1)

/-- ILLEGAL_F4 (R315). -/
def execIllegal_F4 (s : State) : Result := s.fatalIllegal 0xF4#8

/-- EI (R314). -/
def execEi (s : State) : Result := .next ({ s with ime := true }.finish 1 1)

/-- ILLEGAL_FC (R315). -/
def execIllegal_FC (s : State) : Result := s.fatalIllegal 0xFC#8

/-- ILLEGAL_FD (R315). -/
def execIllegal_FD (s : State) : Result := s.fatalIllegal 0xFD#8

end Sys2Proof.Machine
end

