-- ==== Sys2Proof/Machine/Step.lean ====
section
/-! DEFINITION. One cycle of the machine (00_scope.md R8, 70_reset_and_hazards.md R449; log entries 20 and 21), and the
host's entry points over it. -/

namespace Sys2Proof.Machine

open Sys2Proof

/-- One cycle: the host's actions, the timer, the LCD controller with the DMA engine, the CPU. -/
def step (s : State) : Host.Outcome State Fault Refusal := s.cycleWith exec

/-- `runUntil(target)` (00_scope.md R9). -/
def State.runUntil (target : Nat) (s : State) : Host.Outcome State Fault Refusal := s.runUntilWith step target

/-- The state with the instruction of a row of the opcode table placed where `step` fetches next (log entry 9). -/
def State.withFetchWord (s : State) (nbits w : Nat) : State := s.withInstructionBytes (tableBytes nbits w)

end Sys2Proof.Machine
end

