-- ==== Sys2Proof/Machine/Launch.lean ====
section
/-! DEFINITION. Building the machine for a run (70_reset_and_hazards.md R440, R442): the platform, the contents of the
external components and the host's inputs are its parameters (10_state.md R43). -/

namespace Sys2Proof.Machine

open Sys2Proof

/-- The external components' contents from bytes under keys of `mem`; of two bytes under one key the later counts, and
a key of VRAM or OAM is passed over, since those are the core's and zero at reset (log entry 30). -/
def externalContents (cells : List Host.Cell) : Memory :=
  cells.foldl (fun m c => if coreKey c.1 then m else m.write c.1 c.2) []

namespace State

/-- Whether some component answers address 0x0000: "a required collaborator (e.g. a cartridge)" (R442). -/
def answersEntry (s : State) : Bool := s.bus.any fun d => (d.read s 0x0000#16).isSome

/-- The machine built for a run: the reset state, or a failure "at construction" when nothing answers the entry
address (R442, 93 U6). -/
def launch (platform : List Component) (contents : List Host.Cell) (inputs : List (List HostAction)) : Result :=
  let s := { State.resetOn platform (externalContents contents) with hostInputs := inputs }
  if s.answersEntry then .next s else .refused .missingCollaborator

end State

end Sys2Proof.Machine
end

