-- ==== Sys2Proof/Safety.lean ====
section
/-! DEFINITION. The terms the statements use: which addresses a component owns, which reads a store may change, what
an instruction leaves alone, the machine's invariant, and the repetition of one block's step. -/

namespace Sys2Proof.Machine

open Sys2Proof

/-! ## Ownership (20_memory.md R73) -/

/-- The addresses a component owns. -/
def Component.owns (d : Component) (a : Word) : Bool :=
  match d with
  | .cpu => a == Config.regIf || a == Config.regIe
  | .timer => decide (0xFF04 ≤ a.toNat) && decide (a.toNat ≤ 0xFF07)
  | .lcd => decide (0xFF40 ≤ a.toNat) && decide (a.toNat ≤ 0xFF4B)
  | _ => (d.cell? a).isSome

/-- A component that keeps the byte written to an address it owns: VRAM, OAM, RAM. -/
def Component.keepsWrites : Component → Bool
  | .vram => true
  | .oam => true
  | .ram _ _ _ _ => true
  | _ => false

/-- A register of the CPU, the timer or the LCD controller stands at the address. -/
def coreRegister (a : Word) : Bool :=
  Component.cpu.owns a || Component.timer.owns a || Component.lcd.owns a

/-- The first component that owns the address keeps what is written: "a component owning `addr` ... provided no
higher-priority attached component also claims `addr`" (20_memory.md R67). -/
def plainByte (bus : List Component) (a : Word) : Bool :=
  match bus.find? fun d => d.owns a with
  | some d => d.keepsWrites
  | none => false

/-! ## Which reads a store may change -/

/-- The registers that a write of another register may change (20_memory.md R70, 48_timer.md R326 and R327,
49_lcd_dma.md R347 and R352). -/
def registerAffects (a b : Word) : Bool :=
  ((a == Config.regDiv || a == Config.regTac) && (b == Config.regTima || b == Config.regIf)) ||
  (a == Config.regLcdc && (b == Config.regStat || b == Config.regLy || b == Config.regIf)) ||
  (a == Config.regLyc && (b == Config.regStat || b == Config.regIf))

/-- A component of the bus keeps a write of `a` in the byte from which a component answers `b`. -/
def storageAffects (bus : List Component) (a b : Word) : Bool :=
  bus.any fun d => d.keepsWrites && bus.any fun e =>
    match d.cell? a, e.cell? b with
    | some k, some k' => k == k'
    | _, _ => false

/-- A store to `a` may change what a read of `b` gives. -/
def affects (bus : List Component) (a b : Word) : Bool := a == b || registerAffects a b || storageAffects bus a b

/-! ## What an instruction leaves alone -/

/-- Everything but the CPU's registers, PC, SP and marker is the same, and so is every byte read. -/
structure SameOutside (s t : State) : Prop where
  ime : t.ime = s.ime
  ie : t.ie = s.ie
  iflag : t.iflag = s.iflag
  timer : t.timer = s.timer
  lcd : t.lcd = s.lcd
  dma : t.dma = s.dma
  mem : t.mem = s.mem
  bus : t.bus = s.bus
  cycle : t.cycle = s.cycle
  hostInputs : t.hostInputs = s.hostInputs
  bytes : ∀ b, t.busRead b = s.busRead b

/-- Stores at these addresses are all that happened outside the CPU's registers: a byte no store may affect reads
as before; if no store hits a core register, every one of those is as before; nothing else is changed by a store. -/
structure StoresOnly (s t : State) (stored : List Word) : Prop where
  bytes : ∀ b, (∀ a ∈ stored, affects s.bus a b = false) → t.busRead b = s.busRead b
  registers : (∀ a ∈ stored, coreRegister a = false) →
    t.ie = s.ie ∧ t.iflag = s.iflag ∧ t.timer = s.timer ∧ t.lcd = s.lcd ∧ t.dma = s.dma
  ime : t.ime = s.ime
  bus : t.bus = s.bus
  cycle : t.cycle = s.cycle
  hostInputs : t.hostInputs = s.hostInputs

/-- The 8-bit registers not listed are the same. -/
def SameRegsBut (rs : List Reg8) (s t : State) : Prop := ∀ q, q ∉ rs → t.reg q = s.reg q

/-- A, F, B, C, D, E, H, L are all the same. -/
def SameRegs (s t : State) : Prop := t.regs = s.regs

/-- PC moves past `len` bytes and the CPU is next active `cycles` cycles later. -/
def Advances (s t : State) (len cycles : Nat) : Prop :=
  t.pc.toNat = (s.pc.toNat + len) % 65536 ∧ t.cpuNext = .activeAt (s.cycle + cycles)

/-- PC becomes `target` and the CPU is next active `cycles` cycles later. -/
def GoesTo (s t : State) (target cycles : Nat) : Prop :=
  t.pc.toNat = target ∧ t.cpuNext = .activeAt (s.cycle + cycles)

/-- The number F holds for four flags: `(z << 7) | (n << 6) | (h << 5) | (c << 4)` (00_scope.md R12). -/
def flagsNat (z n h c : Bool) : Nat := 128 * z.toNat + 64 * n.toNat + 32 * h.toNat + 16 * c.toNat

/-- F holds exactly these flags. -/
def FlagsAre (t : State) (z n h c : Bool) : Prop := t.regs.f.toNat = flagsNat z n h c

/-- The 3-bit code of a register (30_encoding.md R105). -/
def code8 : Reg8 → Nat
  | .B => 0
  | .C => 1
  | .D => 2
  | .E => 3
  | .H => 4
  | .L => 5
  | .A => 7

/-- The 2-bit code of a pair of `r16` (30_encoding.md R106). -/
def code16 : Pair → Nat
  | .BC => 0
  | .DE => 1
  | .HL => 2
  | .SP => 3

/-- The 2-bit code of a pair of `r16stk` (30_encoding.md R106). -/
def codeStk : StackPair → Nat
  | .BC => 0
  | .DE => 1
  | .HL => 2
  | .AF => 3

/-- The 2-bit condition code (30_encoding.md R107). -/
def codeCond : Cond → Nat
  | .NZ => 0
  | .Z => 1
  | .NC => 2
  | .C => 3

/-- The instruction is encoded by these numbers. -/
def EncodedAs (i : Instr) (bytes : List Nat) : Prop := encode i = bytes.map (BitVec.ofNat 8)

/-! ## Shapes of instructions: each says that the instruction answers a next state, what it holds, and its frame -/

/-- The instruction changes one 8-bit register and moves on. -/
def LoadsByte (i : Instr) (s : State) (r : Reg8) (v : Byte) (len cycles : Nat) : Prop :=
  ∃ t, exec i s = .next t ∧ t.reg r = v ∧ SameRegsBut [r] s t ∧ t.regs.f = s.regs.f ∧ t.sp = s.sp ∧
    Advances s t len cycles ∧ SameOutside s t

/-- The instruction stores one byte and moves on. The state outside the CPU is the one the bus write leaves. -/
def StoresByte (i : Instr) (s : State) (a : Word) (v : Byte) (len cycles : Nat) : Prop :=
  ∃ t, exec i s = .next t ∧ SameRegs s t ∧ t.sp = s.sp ∧ Advances s t len cycles ∧ SameOutside (s.busWrite a v) t ∧
    StoresOnly s t [a] ∧ (plainByte s.bus a = true → t.busRead a = v)

/-- The instruction changes one 8-bit register and the flags, and moves on. -/
def ComputesByte (i : Instr) (s : State) (r : Reg8) (v : Nat) (z n h c : Bool) (len cycles : Nat) : Prop :=
  ∃ t, exec i s = .next t ∧ (t.reg r).toNat = v ∧ FlagsAre t z n h c ∧ SameRegsBut [r] s t ∧ t.sp = s.sp ∧
    Advances s t len cycles ∧ SameOutside s t

/-- The instruction changes the flags alone, and moves on. -/
def ComputesFlags (i : Instr) (s : State) (z n h c : Bool) (len cycles : Nat) : Prop :=
  ∃ t, exec i s = .next t ∧ FlagsAre t z n h c ∧ SameRegsBut [] s t ∧ t.sp = s.sp ∧ Advances s t len cycles ∧
    SameOutside s t

/-- The instruction reads the byte at HL, writes `v` there and the flags, and moves on. -/
def RewritesByte (i : Instr) (s : State) (v : Nat) (f : Nat) (len cycles : Nat) : Prop :=
  ∃ t, exec i s = .next t ∧ t.regs.f.toNat = f ∧ SameRegsBut [] s t ∧ t.sp = s.sp ∧ Advances s t len cycles ∧
    SameOutside (s.busWrite s.hl (BitVec.ofNat 8 v)) t ∧ StoresOnly s t [s.hl] ∧
    (plainByte s.bus s.hl = true → (t.busRead s.hl).toNat = v)

/-- The instruction changes PC alone. -/
def JumpsTo (i : Instr) (s : State) (target cycles : Nat) : Prop :=
  ∃ t, exec i s = .next t ∧ SameRegs s t ∧ t.sp = s.sp ∧ GoesTo s t target cycles ∧ SameOutside s t

/-- The pairs not named, A and F are the same. -/
def SamePairsBut (p : Pair) (s t : State) : Prop :=
  (∀ q, q ≠ p → t.pair q = s.pair q) ∧ t.regs.a = s.regs.a ∧ t.regs.f = s.regs.f

/-- `v` was pushed: SP went down by 2, the high byte was written at the old SP - 1 and then the low byte at SP, and
nothing else outside the CPU was written. -/
structure Pushed (s t : State) (v : Word) : Prop where
  sp : t.sp.toNat = (s.sp.toNat + 65534) % 65536
  outside : SameOutside ((s.busWrite (s.sp - 1) (hiByte v)).busWrite (s.sp - 2) (loByte v)) t
  stores : StoresOnly s t [s.sp - 1, s.sp - 2]
  low : plainByte s.bus (s.sp - 2) = true → t.busRead (s.sp - 2) = loByte v
  high : plainByte s.bus (s.sp - 1) = true → affects s.bus (s.sp - 2) (s.sp - 1) = false →
    t.busRead (s.sp - 1) = hiByte v

/-- `(sp + sext_16(e)) mod 65536` for the byte e read as signed (30_encoding.md R113). -/
def signedSum (w : Word) (e : Byte) : Nat :=
  (w.toNat + (if e.toNat < 128 then e.toNat else e.toNat + 0xFF00)) % 65536

/-- The value and the carry of a prefixed rotate, shift or swap of the number v with carry c (R264 to R279). -/
def rotated : RotOp → Nat → Nat → Nat × Nat
  | .rlc, v, _ => (v * 2 % 256 + v / 128, v / 128)
  | .rrc, v, _ => (v / 2 + 128 * (v % 2), v % 2)
  | .rl, v, c => (v * 2 % 256 + c, v / 128)
  | .rr, v, c => (v / 2 + 128 * c, v % 2)
  | .sla, v, _ => (v * 2 % 256, v / 128)
  | .sra, v, _ => (v / 2 + 128 * (v / 128), v % 2)
  | .swap, v, _ => (v % 16 * 16 + v / 16, 0)
  | .srl, v, _ => (v / 2, v % 2)

/-- The second byte's row of a rotate, shift or swap (30_encoding.md R115). -/
def rotCode : RotOp → Nat
  | .rlc => 0
  | .rrc => 1
  | .rl => 2
  | .rr => 3
  | .sla => 4
  | .sra => 5
  | .swap => 6
  | .srl => 7

/-! ## Classes of instructions -/

/-- STOP and the eleven undefined encodings, with their opcode byte (47_system.md R313, R315). -/
def fatalOpcode? : Instr → Option Byte
  | .stop => some 0x10#8
  | .illegal_D3 => some 0xD3#8
  | .illegal_DB => some 0xDB#8
  | .illegal_DD => some 0xDD#8
  | .illegal_E3 => some 0xE3#8
  | .illegal_E4 => some 0xE4#8
  | .illegal_EB => some 0xEB#8
  | .illegal_EC => some 0xEC#8
  | .illegal_ED => some 0xED#8
  | .illegal_F4 => some 0xF4#8
  | .illegal_FC => some 0xFC#8
  | .illegal_FD => some 0xFD#8
  | _ => none

/-- The condition of a conditional transfer. -/
def condition? : Instr → Option Cond
  | .jp_NZ_nn _ => some .NZ
  | .jp_Z_nn _ => some .Z
  | .jp_NC_nn _ => some .NC
  | .jp_C_nn _ => some .C
  | .jr_NZ_e _ => some .NZ
  | .jr_Z_e _ => some .Z
  | .jr_NC_e _ => some .NC
  | .jr_C_e _ => some .C
  | .call_NZ_nn _ => some .NZ
  | .call_Z_nn _ => some .Z
  | .call_NC_nn _ => some .NC
  | .call_C_nn _ => some .C
  | .ret_NZ => some .NZ
  | .ret_Z => some .Z
  | .ret_NC => some .NC
  | .ret_C => some .C
  | _ => none

/-- The unconditional transfers: they assign PC. -/
def transfers : Instr → Bool
  | .jp_nn _ => true
  | .jp_HL => true
  | .jr_e _ => true
  | .call_nn _ => true
  | .ret => true
  | .reti => true
  | .rst_00 => true
  | .rst_08 => true
  | .rst_10 => true
  | .rst_18 => true
  | .rst_20 => true
  | .rst_28 => true
  | .rst_30 => true
  | .rst_38 => true
  | _ => false

/-- A bus that is the core's components followed by external storage. -/
def corePlatform (bus : List Component) : Prop :=
  ∃ ext, bus = coreComponents ++ ext ∧ ∀ e ∈ ext, (∃ b f l n, e = .ram b f l n) ∨ (∃ b f l, e = .rom b f l) ∨
    ∃ b f l on, e = .overlay b f l on

/-- The LCD registers that no mode change writes: all but LY and the low three bits of STAT. -/
structure Lcd.SameSettings (l m : Lcd) : Prop where
  lcdc : m.lcdc = l.lcdc
  stat : m.stat.toNat / 8 = l.stat.toNat / 8
  scy : m.scy = l.scy
  scx : m.scx = l.scx
  lyc : m.lyc = l.lyc
  dmaReg : m.dmaReg = l.dmaReg
  bgp : m.bgp = l.bgp
  obp0 : m.obp0 = l.obp0
  obp1 : m.obp1 = l.obp1
  wy : m.wy = l.wy
  wx : m.wx = l.wx
  winActive : m.winActive = l.winActive

/-! ## Color indices on numbers (49_lcd_dma.md R366, R367, R371) -/

/-- `tilePixel(base, row, col)`: the color index in the tile data at `base`, column 0 leftmost. -/
def tileIndex (read : Word → Byte) (base row col : Nat) : Nat :=
  2 * ((read (BitVec.ofNat 16 (base + 2 * row + 1))).toNat / 2 ^ (7 - col) % 2) +
    (read (BitVec.ofNat 16 (base + 2 * row))).toNat / 2 ^ (7 - col) % 2

/-- `planePixel(map, px, py)`: tile data from 0x8000, or with signed tile indices from 0x8800. -/
def planeIndex (read : Word → Byte) (unsignedTiles : Bool) (map px py : Nat) : Nat :=
  let t := (read (BitVec.ofNat 16 (map + 32 * (py / 8) + px / 8))).toNat
  tileIndex read (if unsignedTiles then 0x8000 + 16 * t else 0x8800 + 16 * ((t + 0x80) % 256)) (py % 8) (px % 8)

/-- The sprite's color index at screen column x, for x in its eight columns: A[6] and A[5] flip it, and a tall sprite
ignores bit 0 of T. -/
def spriteIndex (read : Word → Byte) (l : Lcd) (sp : Compose.Sprite) (x : Nat) : Nat :=
  let h := if l.lcdc.getLsbD 2 then 16 else 8
  let row := l.ly.toNat + 16 - sp.y.toNat
  let col := x + 8 - sp.x.toNat
  let t := if l.lcdc.getLsbD 2 then sp.tile.toNat / 2 * 2 else sp.tile.toNat
  tileIndex read (0x8000 + 16 * t) (if sp.attr.getLsbD 6 then h - 1 - row else row)
    (if sp.attr.getLsbD 5 then 7 - col else col)

/-- The sprite paints screen column x: x is one of its columns and its index there is not 0. -/
def spritePaints (read : Word → Byte) (l : Lcd) (sp : Compose.Sprite) (x : Nat) : Prop :=
  sp.x.toNat ≤ x + 8 ∧ x < sp.x.toNat ∧ spriteIndex read l sp x ≠ 0

/-- A pixel by numbers: its color `(p >> (2 * i)) & 3` for the index i and the palette p, and whether it is opaque. -/
def PixelIs (p : Pixel) (palette : Byte) (i : Nat) (painted : Bool) : Prop :=
  p.color.toNat = palette.toNat / 4 ^ i % 4 ∧ p.painted = painted

/-- The bits of IF that V-Blank and LCD-STAT requests set. -/
def lcdRequests (vBlank lcdStat : Bool) : Byte := BitVec.ofNat 8 (vBlank.toNat + 2 * lcdStat.toNat)

/-! ## The invariant -/

/-- The LCD controller's part. -/
structure Lcd.Inv (l : Lcd) : Prop where
  /-- While the mode machine runs, LCDC[7] is set. -/
  on : l.next ≠ .idle → l.lcdc.getLsbD 7 = true
  /-- While it is off: line 0, mode 0, window line 0 (49_lcd_dma.md R347). -/
  off : l.next = .idle → l.ly = 0#8 ∧ l.mode = 0#2 ∧ l.winLine = 0
  /-- LY is a scanline (10_state.md R35). -/
  lyRange : l.ly.toNat ≤ 153
  /-- Mode 1 is exactly the lines 144 to 153 (49_lcd_dma.md R349). -/
  vBlank : l.next ≠ .idle → (l.mode = 1#2 ↔ 144 ≤ l.ly.toNat)
  /-- STAT[2] is set only while LY = LYC. -/
  compare : l.stat.getLsbD 2 = true → l.ly = l.lyc
  /-- The window flag is the one of LCDC and WX (49_lcd_dma.md R372). -/
  window : l.winActive = Compose.windowActive l.lcdc l.wx
  /-- The window's counter is at most the number of lines composed so far. -/
  windowLine : l.winLine ≤ 144 ∧ l.winLine ≤ l.ly.toNat + 1 ∧ ((l.mode = 1#2 ∨ l.mode = 2#2) → l.winLine ≤ l.ly.toNat)
  /-- Frames have 144 lines (49_lcd_dma.md R364). -/
  frames : l.builder.length = 144 ∧ l.image.length = 144

/-- The DMA engine's part (10_state.md R39). -/
structure Dma.Inv (d : Dma) : Prop where
  page : d.source.toNat % 256 = 0
  range : d.offset ≤ 160
  going : d.active = true → d.offset < 160

/-- The machine's invariant. -/
structure State.Inv (s : State) : Prop where
  /-- "F's low nibble is always zero" (10_state.md R23). -/
  flags : s.regs.f.toNat % 16 = 0
  /-- Stored bytes are in their canonical form. -/
  memory : s.mem.wf
  /-- `cpu_next = ActiveAt(n)` with n below the cycle "cannot occur" (60_exceptions.md R406). -/
  cpuTime : ∀ n, s.cpuNext = .activeAt n → s.cycle ≤ n
  /-- `lcd_next = ActiveAt(n)` with n below the cycle "cannot occur" (49_lcd_dma.md R341). -/
  lcdTime : ∀ n, s.lcd.next = .activeAt n → s.cycle ≤ n
  lcd : s.lcd.Inv
  dma : s.dma.Inv

/-! ## Repetition of one block's step -/

/-- n timer steps with no write between them, and whether one of them requested the interrupt. -/
def Timer.ticks : Nat → Timer → Timer × Byte
  | 0, t => (t, 0#8)
  | n + 1, t => ((Timer.ticks n t).1.tick.1, (Timer.ticks n t).2 ||| (Timer.ticks n t).1.tick.2)

/-- The LCD controller after its steps of the n cycles from c on, with no write between them. -/
def Lcd.cycles (read : Word → Byte) (c : Nat) : Nat → Lcd → Lcd
  | 0, l => l
  | n + 1, l => ((Lcd.cycles read c n l).cycleModes read (c + n)).1

/-- n DMA steps with no other write between them. -/
def State.dmaSteps : Nat → State → State
  | 0, s => s
  | n + 1, s => (State.dmaSteps n s).dmaStep

/-- An operation repeated n times. -/
def times {α : Type} (f : α → α) : Nat → α → α
  | 0, x => x
  | n + 1, x => f (times f n x)

end Sys2Proof.Machine
end

