-- ==== Sys2Proof/Certificates/Slice0/Obligations.lean ====
section
/-! DEFINITION. The statements for the provers. Every opcode byte, length and number of cycles in them is the spec's own
decision D5 or D6 (log entry 27); flag values beyond the source's four laws, register widths and addresses, and the LCD's
formats are its decisions D11 to D46 (log entry 28). -/

open Sys2Proof Sys2Proof.Machine

/-! ## Reset and encoding -/

/-- The reset state of 10_state.md R50 and 70_reset_and_hazards.md R441 (the spec's decision D37; log entry 1), and a
launch (R440, R442; log entries 3 and 30): it fails when nothing answers address 0x0000, and is otherwise the reset state on the
platform, with the external components' contents and the host's inputs as given. -/
def Obligations.ResetStateValues : Prop :=
  (State.reset.regs = ⟨0#8, 0#8, 0#8, 0#8, 0#8, 0#8, 0#8, 0#8⟩ ∧ State.reset.pc = 0#16 ∧ State.reset.sp = 0#16 ∧
  State.reset.ime = false ∧ State.reset.ie = 0#8 ∧ State.reset.iflag = 0#8 ∧ State.reset.cpuNext = .activeAt 0 ∧
  State.reset.cycle = 0 ∧ State.reset.timer = ⟨0#16, 0#8, 0#8, 0#3⟩ ∧ State.reset.lcd.next = .idle ∧
  (∀ k, k ≤ 11 → State.reset.busRead (0xFF40#16 + BitVec.ofNat 16 k) = 0#8) ∧
  State.reset.lcd.winActive = false ∧ State.reset.lcd.winLine = 0 ∧
  (∀ x y, x < 160 → y < 144 → imageGet State.reset.lcd.image x y = some 0#2) ∧
  State.reset.dma = ⟨false, 0#16, 0⟩ ∧
  (∀ x y, x < 160 → y < 144 → imageGet State.reset.lcd.builder x y = some 0#2) ∧
  (∀ a : Word, (0x8000 ≤ a.toNat ∧ a.toNat ≤ 0x9FFF) ∨ (0xFE00 ≤ a.toNat ∧ a.toNat ≤ 0xFE9F) →
    State.reset.busRead a = 0#8)) ∧
  (∀ (platform : List Component) (contents : List Host.Cell) (inputs : List (List HostAction)),
    ((∀ d ∈ platform, d.owns 0x0000#16 = false) →
      State.launch platform contents inputs = .refused .missingCollaborator) ∧
    ((∃ d ∈ platform, d.owns 0x0000#16 = true) → ∃ s, State.launch platform contents inputs = .next s ∧
      s = { State.reset with bus := platform, mem := s.mem, hostInputs := inputs } ∧ s.mem.wf ∧
      (∀ k, (0x8000 ≤ k ∧ k ≤ 0x9FFF) ∨ (0xFE00 ≤ k ∧ k ≤ 0xFE9F) → s.mem.read k = 0#8) ∧
      (∀ k, (∀ c ∈ contents, c.1 ≠ k) → s.mem.read k = 0#8) ∧
      (∀ pre k v post, contents = pre ++ (k, v) :: post → (∀ c ∈ post, c.1 ≠ k) →
        ¬(0x8000 ≤ k ∧ k ≤ 0x9FFF) → ¬(0xFE00 ≤ k ∧ k ≤ 0xFE9F) → s.mem.read k = v)))

/-- The invariant holds at reset. -/
def Obligations.ResetMeetsInvariant : Prop := State.reset.Inv

/-- Words written out from the encodings of the rules (41_load8.md to 47_system.md) decode to their instructions. -/
def Obligations.SampleWordsDecode : Prop :=
  decode [0b01111000#8] = .ok (.ld_A_B, []) ∧ decode [0x3E#8, 0x0B#8] = .ok (.ld_A_n 0x0B#8, []) ∧
  decode [0x31#8, 0xFF#8, 0xFF#8] = .ok (.ld_SP_nn 0xFFFF#16, []) ∧
  decode [0x08#8, 0x00#8, 0xC1#8] = .ok (.ld_mnn_SP 0xC100#16, []) ∧
  decode [0b10001011#8] = .ok (.adc_A_E, []) ∧ decode [0b00110100#8] = .ok (.inc_mHL, []) ∧
  decode [0b00101001#8] = .ok (.add_HL_HL, []) ∧ decode [0xCB#8, 0b01111100#8] = .ok (.bit_b_H 7, []) ∧
  decode [0xCB#8, 0b00110111#8] = .ok (.swap_A, []) ∧
  decode [0b00100000#8, 0xFD#8] = .ok (.jr_NZ_e 0xFD#8, []) ∧
  decode [0b11011100#8, 0x34#8, 0x12#8] = .ok (.call_C_nn 0x1234#16, []) ∧
  decode [0b11101111#8] = .ok (.rst_28, []) ∧ decode [0x76#8] = .ok (.halt, []) ∧
  decode [0x10#8, 0x00#8] = .ok (.stop, [0x00#8]) ∧ decode [0xDD#8] = .ok (.illegal_DD, []) ∧
  decode [0xCD#8, 0x34#8] = .error .truncated ∧ decode [] = .error .noBytes

/-- Decoding what the encoder gives answers the instruction with every operand, and the bytes after it. -/
def Obligations.DecodeOfEncode : Prop :=
  ∀ (i : Instr) (rest : List Byte), i.wellFormed = true → decode (encode i ++ rest) = .ok (i, rest)

/-- Every three bytes begin with one well-formed instruction, whose encoding is a prefix of them of the length their
first byte says: no two rows share an encoding and none of the 512 encodings is left out (30_encoding.md R114, R115). -/
def Obligations.EncodeOfDecode : Prop :=
  ∀ b0 b1 b2 : Byte, (decodeBytes b0 b1 b2).wellFormed = true ∧
    encode (decodeBytes b0 b1 b2) = [b0, b1, b2].take (instrLength b0)

/-! ## The machine's step -/

/-- The devices' cycle is the host's actions, the timer, the DMA step, then the mode machine, which reads the bus after
the copy and whose requests are joined to IF (00_scope.md R8; 49_lcd_dma.md R341, R377; 70_reset_and_hazards.md R449).
When after it the CPU's unit of work is due and no interrupt is dispatched, a step is the devices' cycle, then the
instruction whose bytes stand at PC, then the next cycle number. -/
def Obligations.StepRunsTheDecodedInstruction : Prop :=
  (∀ (s w : State) (m : Lcd) (q : Byte), w = s.applyInputs.timerCycle.dmaStep →
    w.lcd.cycleModes w.busRead w.cycle = (m, q) → s.devicesCycle = { w with lcd := m, iflag := w.iflag ||| q }) ∧
  ∀ (s : State) (i : Instr) (rest : List Byte), s.devicesCycle.cpuNext = .activeAt s.devicesCycle.cycle →
    (s.devicesCycle.ime = false ∨ s.devicesCycle.ie &&& s.devicesCycle.iflag &&& 0x1F#8 = 0#8) →
    decode [s.devicesCycle.busRead s.devicesCycle.pc, s.devicesCycle.busRead (s.devicesCycle.pc + 1),
      s.devicesCycle.busRead (s.devicesCycle.pc + 2)] = .ok (i, rest) →
    step s = match exec i s.devicesCycle with
      | .next t => .next { t with cycle := t.cycle + 1 }
      | .fault f => .fault f
      | .refused r => .refused r

/-- The CPU's other cycles (60_exceptions.md R406, R407): waiting for its cycle or idle with nothing pending it does
nothing; idle with an enabled kind pending and IME = 0 it wakes and runs the instruction at PC in the same cycle. -/
def Obligations.WaitingAndWakingCpu : Prop :=
  ∀ s : State,
    (∀ n, s.devicesCycle.cpuNext = .activeAt n → n ≠ s.devicesCycle.cycle →
      step s = .next { s.devicesCycle with cycle := s.devicesCycle.cycle + 1 }) ∧
    (s.devicesCycle.cpuNext = .idle → s.devicesCycle.ie &&& s.devicesCycle.iflag &&& 0x1F#8 = 0#8 →
      step s = .next { s.devicesCycle with cycle := s.devicesCycle.cycle + 1 }) ∧
    (s.devicesCycle.cpuNext = .idle → s.devicesCycle.ie &&& s.devicesCycle.iflag &&& 0x1F#8 ≠ 0#8 →
      s.devicesCycle.ime = false → ∀ (i : Instr) (rest : List Byte),
        decode [s.devicesCycle.busRead s.devicesCycle.pc, s.devicesCycle.busRead (s.devicesCycle.pc + 1),
          s.devicesCycle.busRead (s.devicesCycle.pc + 2)] = .ok (i, rest) →
        step s = match exec i { s.devicesCycle with cpuNext := .activeAt s.devicesCycle.cycle } with
          | .next t => .next { t with cycle := t.cycle + 1 }
          | .fault f => .fault f
          | .refused r => .refused r)

/-- Taking an interrupt (60_exceptions.md R410, R411): with IME set and kind k the least enabled pending one, the
step dispatches it, whether the CPU is idle or due, and fetches nothing. -/
def Obligations.InterruptDispatch : Prop :=
  ∀ (s d : State) (k : Interrupt), d = s.devicesCycle → (d.cpuNext = .idle ∨ d.cpuNext = .activeAt d.cycle) →
    d.ime = true → (d.ie.getLsbD k.index = true ∧ d.iflag.getLsbD k.index = true) →
    (∀ j, j < k.index → ¬(d.ie.getLsbD j = true ∧ d.iflag.getLsbD j = true)) →
    ∃ t, step s = .next { t with cycle := t.cycle + 1 } ∧ t.pc.toNat = 0x40 + 8 * k.index ∧
      t.cpuNext = .activeAt (d.cycle + 5) ∧ t.regs = d.regs ∧
      Pushed { d with ime := false, iflag := d.iflag &&& ~~~(1#8 <<< k.index) } t d.pc

/-- `requestInterrupt(k)` sets the kind's bit of IF and does nothing else (60_exceptions.md R403). -/
def Obligations.RequestInterruptSetsItsBit : Prop :=
  ∀ (s : State) (k : Interrupt),
    (∀ j, j < 8 → (s.requestInterrupt k).iflag.getLsbD j = (s.iflag.getLsbD j || decide (j = k.index))) ∧
    s.requestInterrupt k = { s with iflag := (s.requestInterrupt k).iflag }

/-- The host's interface (00_scope.md R9, 60_exceptions.md R404). The driving loop refuses a target already past, steps
once per cycle until it reaches the target, and is then at the target. Before a cycle the host's actions listed for it
are applied, in order: a Serial or Joypad request sets IF[3] or IF[4] and does nothing else; a change of an external byte
changes that byte alone and never VRAM or OAM; the overlay's switch (log entry 29) changes no other component. -/
def Obligations.RunUntilStepsToTheTarget : Prop :=
  (∀ s : State, s.hostInputs = [] → s.applyInputs = s) ∧
  (∀ (s : State) (now : List HostAction) (later : List (List HostAction)), s.hostInputs = now :: later →
    s.applyInputs = now.foldl State.applyAction { s with hostInputs := later } ∧
    s.applyInputs = { s with hostInputs := later, iflag := s.applyInputs.iflag, mem := s.applyInputs.mem,
                             bus := s.applyInputs.bus } ∧
    (∀ j, j ≠ 3 → j ≠ 4 → s.applyInputs.iflag.getLsbD j = s.iflag.getLsbD j) ∧
    (∀ k, (0x8000 ≤ k ∧ k ≤ 0x9FFF) ∨ (0xFE00 ≤ k ∧ k ≤ 0xFE9F) → s.applyInputs.mem.read k = s.mem.read k)) ∧
  (∀ s : State, s.applyAction .requestSerial = { s with iflag := s.iflag ||| 0x08#8 } ∧
    s.applyAction .requestJoypad = { s with iflag := s.iflag ||| 0x10#8 }) ∧
  (∀ (s : State) (k : Nat) (v : Byte),
    s.applyAction (.setExternal k v) = { s with mem := (s.applyAction (.setExternal k v)).mem } ∧
    (∀ j, j ≠ k → (s.applyAction (.setExternal k v)).mem.read j = s.mem.read j) ∧
    ((0x8000 ≤ k ∧ k ≤ 0x9FFF) ∨ (0xFE00 ≤ k ∧ k ≤ 0xFE9F) → s.applyAction (.setExternal k v) = s) ∧
    (¬(0x8000 ≤ k ∧ k ≤ 0x9FFF) → ¬(0xFE00 ≤ k ∧ k ≤ 0xFE9F) →
      (s.applyAction (.setExternal k v)).mem.read k = v)) ∧
  (∀ (s t : State) (on : Bool), t = s.applyAction (.enableOverlay on) →
    t = { s with bus := t.bus } ∧ t.bus.length = s.bus.length ∧
    ∀ (i : Nat) (d : Component), s.bus[i]? = some d →
      ((∀ b f l was, d ≠ .overlay b f l was) → t.bus[i]? = some d) ∧
      (∀ b f l was, d = .overlay b f l was → t.bus[i]? = some (.overlay b f l on))) ∧
  ∀ (s : State) (target : Nat),
    (target < s.cycle → s.runUntil target = .refused .timeTravel) ∧
    (target = s.cycle → s.runUntil target = .next s) ∧
    (s.cycle < target → s.runUntil target = match step s with
      | .next t => t.runUntil target
      | .fault f => .fault f
      | .refused r => .refused r) ∧
    (∀ t, s.runUntil target = .next t → t.cycle = target)

/-- Every step keeps the invariant. -/
def Obligations.StepKeepsInvariant : Prop := ∀ s t : State, s.Inv → step s = .next t → t.Inv

/-! ## Rules over all instructions -/

/-- No instruction but EI, RETI and DI writes IME; the first two set it, DI clears it (10_state.md R28). -/
def Obligations.OnlyEiRetiDiWriteIme : Prop :=
  ∀ (i : Instr) (s t : State), exec i s = .next t →
    t.ime = (if i = .ei ∨ i = .reti then true else if i = .di then false else s.ime)

/-- HALT alone makes the CPU idle; every other instruction is charged between 1 and 6 cycles (10_state.md R32,
60_exceptions.md R409 and R413). -/
def Obligations.OnlyHaltIdles : Prop :=
  ∀ (i : Instr) (s t : State), exec i s = .next t →
    (i = .halt → t.cpuNext = .idle) ∧
    (i ≠ .halt → ∃ n, 1 ≤ n ∧ n ≤ 6 ∧ t.cpuNext = .activeAt (s.cycle + n))

/-- STOP and the eleven undefined encodings are fatal, at the address of the opcode (47_system.md R313, R315;
60_exceptions.md R401, R402), and every other instruction answers a next state (R400). -/
def Obligations.OnlyUndefinedOpcodesAreFatal : Prop :=
  ∀ (i : Instr) (s : State),
    (i = .stop → exec i s = .fault (.stop 0x10#8 s.pc)) ∧
    (∀ op, i ≠ .stop → fatalOpcode? i = some op → exec i s = .fault (.illegalOpcode op s.pc) ∧ encode i = [op]) ∧
    (fatalOpcode? i = none → ∃ t, exec i s = .next t)

/-- An instruction that does not assign PC advances it by its length, and a conditional transfer whose condition is
false falls through the same way (30_encoding.md R110). -/
def Obligations.PcAdvancesByTheLength : Prop :=
  ∀ (i : Instr) (s : State), i.wellFormed = true → fatalOpcode? i = none → transfers i = false →
    (∀ cc, condition? i = some cc → s.cond cc = false) →
    ∃ t, exec i s = .next t ∧ t.pc.toNat = (s.pc.toNat + (encode i).length) % 65536

/-- The escape byte with a second byte acts as the prefixed instruction that the byte selects, and completes
(30_encoding.md R103, R115). -/
def Obligations.EscapeRunsTheSelectedInstruction : Prop :=
  ∀ (op2 : Byte) (s : State), exec (.escape op2) s = exec (decodePrefixed op2) s ∧ ∃ t, exec (.escape op2) s = .next t

/-- A pair is its two registers, high byte first; writing it writes both; writing AF masks F's low nibble (10_state.md
R21). -/
def Obligations.PairsAreTheirRegisters : Prop :=
  ∀ (s : State) (v : Word),
    s.af.toNat = 256 * s.regs.a.toNat + s.regs.f.toNat ∧ s.bc.toNat = 256 * s.regs.b.toNat + s.regs.c.toNat ∧
    s.de.toNat = 256 * s.regs.d.toNat + s.regs.e.toNat ∧ s.hl.toNat = 256 * s.regs.h.toNat + s.regs.l.toNat ∧
    (s.setBC v).bc = v ∧ (s.setDE v).de = v ∧ (s.setHL v).hl = v ∧
    (s.setAF v).af.toNat = v.toNat / 16 * 16 ∧
    s.setBC v = { s with regs := { s.regs with b := (s.setBC v).regs.b, c := (s.setBC v).regs.c } } ∧
    s.setDE v = { s with regs := { s.regs with d := (s.setDE v).regs.d, e := (s.setDE v).regs.e } } ∧
    s.setHL v = { s with regs := { s.regs with h := (s.setHL v).regs.h, l := (s.setHL v).regs.l } } ∧
    s.setAF v = { s with regs := { s.regs with a := (s.setAF v).regs.a, f := (s.setAF v).regs.f } }

/-! ## The ALU -/

/-- The laws of 95_test_vectors.md B1: both 16-bit additions are the chained 8-bit additions (40_alu.md R152);
rotations undo each other, nine rotations through the carry and two swaps are the identity (R146 to R148); adding two
2-digit decimal numbers held as BCD, with a carry, and adjusting gives the sum's last two digits and its carry (R135,
R139). -/
def Obligations.AluLaws : Prop :=
  (∀ l r : Word, ∀ lo hi : AluWord 8, lo = Alu.add (loByte l) (loByte r) false →
    hi = Alu.add (hiByte l) (hiByte r) lo.cf →
    (Alu.add16L l r).val = wordOf hi.val lo.val ∧ (Alu.add16H l r).val = wordOf hi.val lo.val ∧
    (Alu.add16L l r).hf = lo.hf ∧ (Alu.add16L l r).cf = lo.cf ∧ (Alu.add16H l r).hf = hi.hf ∧
    (Alu.add16H l r).cf = hi.cf) ∧
  (∀ v : Byte, (Alu.rotate .left (Alu.rotate .right v).val).val = v ∧
    (Alu.rotate .right (Alu.rotate .left v).val).val = v ∧ (Alu.swap (Alu.swap v).val).val = v) ∧
  (∀ (dir : Alu.Dir) (v : Byte) (c : Bool),
    times (fun p : Byte × Bool => ((Alu.rotateC dir p.1 p.2).val, (Alu.rotateC dir p.1 p.2).cf)) 9 (v, c) = (v, c)) ∧
  (∀ (a b : Nat) (c : Bool), a < 100 → b < 100 → ∀ (l r : Byte) (W V : AluWord 8),
    l = BitVec.ofNat 8 (a / 10 * 16 + a % 10) → r = BitVec.ofNat 8 (b / 10 * 16 + b % 10) →
    W = Alu.add l r c → V = Alu.bcdAdjust W.val false W.hf W.cf →
    V.val.toNat = (a + b + c.toNat) % 100 / 10 * 16 + (a + b + c.toNat) % 10 ∧
    V.cf = decide (100 ≤ a + b + c.toNat))

/-! ## Loads -/

/-- 41_load8.md R160 to R162, R165, R166, R169, R171, R173. -/
def Obligations.LoadByteForms : Prop :=
  ∀ (s : State) (r q : Reg8) (n : Byte) (nn : Word),
    (EncodedAs (.ldRR r q) [64 + 8 * code8 r + code8 q] ∧ LoadsByte (.ldRR r q) s r (s.reg q) 1 1) ∧
    (EncodedAs (.ldRN r n) [6 + 8 * code8 r, n.toNat] ∧ LoadsByte (.ldRN r n) s r n 2 2) ∧
    (EncodedAs (.ldRM r) [70 + 8 * code8 r] ∧ LoadsByte (.ldRM r) s r (s.busRead s.hl) 1 2) ∧
    (EncodedAs .ld_A_mBC [0x0A] ∧ LoadsByte .ld_A_mBC s .A (s.busRead s.bc) 1 2) ∧
    (EncodedAs .ld_A_mDE [0x1A] ∧ LoadsByte .ld_A_mDE s .A (s.busRead s.de) 1 2) ∧
    (EncodedAs (.ld_A_mnn nn) [0xFA, nn.toNat % 256, nn.toNat / 256] ∧
      LoadsByte (.ld_A_mnn nn) s .A (s.busRead nn) 3 4) ∧
    (EncodedAs (.ldh_A_mn n) [0xF0, n.toNat] ∧
      LoadsByte (.ldh_A_mn n) s .A (s.busRead (BitVec.ofNat 16 (0xFF00 + n.toNat))) 2 3) ∧
    (EncodedAs .ld_A_mC [0xF2] ∧
      LoadsByte .ld_A_mC s .A (s.busRead (BitVec.ofNat 16 (0xFF00 + s.regs.c.toNat))) 1 2)

/-- 41_load8.md R163, R164, R167, R168, R170, R172, R174. -/
def Obligations.StoreByteForms : Prop :=
  ∀ (s : State) (r : Reg8) (n : Byte) (nn : Word),
    (EncodedAs (.ldMR r) [0x70 + code8 r] ∧ StoresByte (.ldMR r) s s.hl (s.reg r) 1 2) ∧
    (EncodedAs (.ld_mHL_n n) [0x36, n.toNat] ∧ StoresByte (.ld_mHL_n n) s s.hl n 2 3) ∧
    (EncodedAs .ld_mBC_A [0x02] ∧ StoresByte .ld_mBC_A s s.bc s.regs.a 1 2) ∧
    (EncodedAs .ld_mDE_A [0x12] ∧ StoresByte .ld_mDE_A s s.de s.regs.a 1 2) ∧
    (EncodedAs (.ld_mnn_A nn) [0xEA, nn.toNat % 256, nn.toNat / 256] ∧ StoresByte (.ld_mnn_A nn) s nn s.regs.a 3 4) ∧
    (EncodedAs (.ldh_mn_A n) [0xE0, n.toNat] ∧
      StoresByte (.ldh_mn_A n) s (BitVec.ofNat 16 (0xFF00 + n.toNat)) s.regs.a 2 3) ∧
    (EncodedAs .ld_mC_A [0xE2] ∧
      StoresByte .ld_mC_A s (BitVec.ofNat 16 (0xFF00 + s.regs.c.toNat)) s.regs.a 1 2)

/-- 41_load8.md R175 to R178: the access uses HL as it was, then HL moves by one. -/
def Obligations.LoadAndStoreMovingHL : Prop :=
  ∀ s : State,
    (∀ i d op, (i, d, op) = (.ld_A_mHLi, 1, 0x2A) ∨ (i, d, op) = (.ld_A_mHLd, 65535, 0x3A) →
      EncodedAs i [op] ∧ ∃ t, exec i s = .next t ∧ t.regs.a = s.busRead s.hl ∧
        t.hl.toNat = (s.hl.toNat + d) % 65536 ∧ SameRegsBut [.A, .H, .L] s t ∧ t.regs.f = s.regs.f ∧ t.sp = s.sp ∧
        Advances s t 1 2 ∧ SameOutside s t) ∧
    (∀ i d op, (i, d, op) = (.ld_mHLi_A, 1, 0x22) ∨ (i, d, op) = (.ld_mHLd_A, 65535, 0x32) →
      EncodedAs i [op] ∧ ∃ t, exec i s = .next t ∧ t.hl.toNat = (s.hl.toNat + d) % 65536 ∧
        SameRegsBut [.H, .L] s t ∧ t.regs.f = s.regs.f ∧ t.sp = s.sp ∧ Advances s t 1 2 ∧
        SameOutside (s.busWrite s.hl s.regs.a) t ∧ StoresOnly s t [s.hl] ∧
        (plainByte s.bus s.hl = true → t.busRead s.hl = s.regs.a))

/-- 42_load16_stack.md R190 and R192. -/
def Obligations.LoadPairForms : Prop :=
  ∀ (s : State) (p : Pair) (nn : Word),
    (EncodedAs (.ldPairNN p nn) [1 + 16 * code16 p, nn.toNat % 256, nn.toNat / 256] ∧
      ∃ t, exec (.ldPairNN p nn) s = .next t ∧ t.pair p = nn ∧ SamePairsBut p s t ∧ Advances s t 3 3 ∧
        SameOutside s t) ∧
    (EncodedAs .ld_SP_HL [0xF9] ∧
      ∃ t, exec .ld_SP_HL s = .next t ∧ t.sp = s.hl ∧ SameRegs s t ∧ Advances s t 1 2 ∧ SameOutside s t)

/-- 42_load16_stack.md R191: the low byte at nn first, then the high byte at nn + 1. -/
def Obligations.StoreStackPointer : Prop :=
  ∀ (s : State) (nn : Word), EncodedAs (.ld_mnn_SP nn) [0x08, nn.toNat % 256, nn.toNat / 256] ∧
    ∃ t, exec (.ld_mnn_SP nn) s = .next t ∧ SameRegs s t ∧ t.sp = s.sp ∧ Advances s t 3 5 ∧
      SameOutside ((s.busWrite nn (BitVec.ofNat 8 (s.sp.toNat % 256))).busWrite (nn + 1)
        (BitVec.ofNat 8 (s.sp.toNat / 256))) t ∧
      StoresOnly s t [nn, nn + 1] ∧
      (plainByte s.bus (nn + 1) = true → (t.busRead (nn + 1)).toNat = s.sp.toNat / 256) ∧
      (plainByte s.bus nn = true → affects s.bus (nn + 1) nn = false → (t.busRead nn).toNat = s.sp.toNat % 256)

/-- 42_load16_stack.md R193 and 44_arith16.md R253: H and C come from the low byte, Z and N are 0. -/
def Obligations.StackPointerOffset : Prop :=
  ∀ (s : State) (e : Byte),
    (EncodedAs (.ld_HL_SPe e) [0xF8, e.toNat] ∧
      ∃ t, exec (.ld_HL_SPe e) s = .next t ∧ t.hl.toNat = signedSum s.sp e ∧
        FlagsAre t false false (decide (s.sp.toNat % 16 + e.toNat % 16 > 15))
          (decide (s.sp.toNat % 256 + e.toNat > 255)) ∧
        SameRegsBut [.H, .L] s t ∧ t.sp = s.sp ∧ Advances s t 2 3 ∧ SameOutside s t) ∧
    (EncodedAs (.add_SP_e e) [0xE8, e.toNat] ∧
      ∃ t, exec (.add_SP_e e) s = .next t ∧ t.sp.toNat = signedSum s.sp e ∧
        FlagsAre t false false (decide (s.sp.toNat % 16 + e.toNat % 16 > 15))
          (decide (s.sp.toNat % 256 + e.toNat > 255)) ∧
        SameRegsBut [] s t ∧ Advances s t 2 4 ∧ SameOutside s t)

/-- PUSH (42_load16_stack.md R194), with the push of R201 (the order of its two writes is the spec's decision D4). -/
def Obligations.PushForms : Prop :=
  ∀ (s : State) (q : StackPair), EncodedAs (.pushPair q) [0xC5 + 16 * codeStk q] ∧
    ∃ t, exec (.pushPair q) s = .next t ∧ SameRegs s t ∧ Advances s t 1 4 ∧ Pushed s t (s.stackPair q)

/-- POP (42_load16_stack.md R195, R203), with the pop of R202: AF drops the popped byte's low nibble (the spec's
decisions D4, D45). -/
def Obligations.PopForms : Prop :=
  ∀ (s : State) (q : StackPair), EncodedAs (.popPair q) [0xC1 + 16 * codeStk q] ∧
    ∃ t, exec (.popPair q) s = .next t ∧
      (t.stackPair q).toNat = (if q = .AF then
        (256 * (s.busRead (s.sp + 1)).toNat + (s.busRead s.sp).toNat) / 16 * 16
        else 256 * (s.busRead (s.sp + 1)).toNat + (s.busRead s.sp).toNat) ∧
      (∀ p, p ≠ q → t.stackPair p = s.stackPair p) ∧ t.sp.toNat = (s.sp.toNat + 2) % 65536 ∧ Advances s t 1 3 ∧
      SameOutside s t

/-- After a push onto two plain bytes that do not stand for one another, a pop gives the value back and restores SP
(42_load16_stack.md R202). -/
def Obligations.PopUndoesPush : Prop :=
  ∀ (s : State) (v : Word), plainByte s.bus (s.sp - 1) = true → plainByte s.bus (s.sp - 2) = true →
    affects s.bus (s.sp - 2) (s.sp - 1) = false →
    (s.push16 v).top16 = v ∧ (s.push16 v).drop16.sp = s.sp

/-! ## 8-bit arithmetic and logic -/

/-- 43_arith8.md R210 to R215. -/
def Obligations.AddForms : Prop :=
  ∀ (s : State) (r : Reg8) (n : Byte),
    (∀ (i : Instr) (v c len cycles : Nat),
      (i, v, c, len, cycles) = (.aluR .add r, (s.reg r).toNat, 0, 1, 1) ∨
      (i, v, c, len, cycles) = (.aluN .add n, n.toNat, 0, 2, 2) ∨
      (i, v, c, len, cycles) = (.aluM .add, (s.busRead s.hl).toNat, 0, 1, 2) ∨
      (i, v, c, len, cycles) = (.aluR .adc r, (s.reg r).toNat, s.fC.toNat, 1, 1) ∨
      (i, v, c, len, cycles) = (.aluN .adc n, n.toNat, s.fC.toNat, 2, 2) ∨
      (i, v, c, len, cycles) = (.aluM .adc, (s.busRead s.hl).toNat, s.fC.toNat, 1, 2) →
      ComputesByte i s .A ((s.regs.a.toNat + v + c) % 256) (decide ((s.regs.a.toNat + v + c) % 256 = 0)) false
        (decide (s.regs.a.toNat % 16 + v % 16 + c > 15)) (decide (s.regs.a.toNat + v + c > 255)) len cycles) ∧
    EncodedAs (.aluR .add r) [0x80 + code8 r] ∧ EncodedAs (.aluN .add n) [0xC6, n.toNat] ∧
    EncodedAs (.aluM .add) [0x86] ∧ EncodedAs (.aluR .adc r) [0x88 + code8 r] ∧
    EncodedAs (.aluN .adc n) [0xCE, n.toNat] ∧ EncodedAs (.aluM .adc) [0x8E]

/-- 43_arith8.md R216 to R221. -/
def Obligations.SubtractForms : Prop :=
  ∀ (s : State) (r : Reg8) (n : Byte),
    (∀ (i : Instr) (v c len cycles : Nat),
      (i, v, c, len, cycles) = (.aluR .sub r, (s.reg r).toNat, 0, 1, 1) ∨
      (i, v, c, len, cycles) = (.aluN .sub n, n.toNat, 0, 2, 2) ∨
      (i, v, c, len, cycles) = (.aluM .sub, (s.busRead s.hl).toNat, 0, 1, 2) ∨
      (i, v, c, len, cycles) = (.aluR .sbc r, (s.reg r).toNat, s.fC.toNat, 1, 1) ∨
      (i, v, c, len, cycles) = (.aluN .sbc n, n.toNat, s.fC.toNat, 2, 2) ∨
      (i, v, c, len, cycles) = (.aluM .sbc, (s.busRead s.hl).toNat, s.fC.toNat, 1, 2) →
      ComputesByte i s .A ((s.regs.a.toNat + 512 - v - c) % 256)
        (decide ((s.regs.a.toNat + 512 - v - c) % 256 = 0)) true
        (decide (s.regs.a.toNat % 16 < v % 16 + c)) (decide (s.regs.a.toNat < v + c)) len cycles) ∧
    EncodedAs (.aluR .sub r) [0x90 + code8 r] ∧ EncodedAs (.aluN .sub n) [0xD6, n.toNat] ∧
    EncodedAs (.aluM .sub) [0x96] ∧ EncodedAs (.aluR .sbc r) [0x98 + code8 r] ∧
    EncodedAs (.aluN .sbc n) [0xDE, n.toNat] ∧ EncodedAs (.aluM .sbc) [0x9E]

/-- 43_arith8.md R231 to R233: the flags of the subtraction, and A is never written. -/
def Obligations.CompareForms : Prop :=
  ∀ (s : State) (r : Reg8) (n : Byte),
    (∀ (i : Instr) (v len cycles : Nat),
      (i, v, len, cycles) = (.aluR .cp r, (s.reg r).toNat, 1, 1) ∨
      (i, v, len, cycles) = (.aluN .cp n, n.toNat, 2, 2) ∨
      (i, v, len, cycles) = (.aluM .cp, (s.busRead s.hl).toNat, 1, 2) →
      ComputesFlags i s (decide (s.regs.a.toNat = v)) true (decide (s.regs.a.toNat % 16 < v % 16))
        (decide (s.regs.a.toNat < v)) len cycles) ∧
    EncodedAs (.aluR .cp r) [0xB8 + code8 r] ∧ EncodedAs (.aluN .cp n) [0xFE, n.toNat] ∧ EncodedAs (.aluM .cp) [0xBE]

/-- 43_arith8.md R222 to R230, bit by bit: AND always sets H. -/
def Obligations.LogicForms : Prop :=
  ∀ (s : State) (op : AluOp) (f : Bool → Bool → Bool) (h : Bool) (base : Nat),
    (op, f, h, base) = (.and, (· && ·), true, 0xA0) ∨ (op, f, h, base) = (.xor, (· ^^ ·), false, 0xA8) ∨
      (op, f, h, base) = (.or, (· || ·), false, 0xB0) →
    ∀ (r : Reg8) (n : Byte),
      (∀ (i : Instr) (v : Byte) (len cycles : Nat),
        (i, v, len, cycles) = (.aluR op r, s.reg r, 1, 1) ∨ (i, v, len, cycles) = (.aluN op n, n, 2, 2) ∨
        (i, v, len, cycles) = (.aluM op, s.busRead s.hl, 1, 2) →
        ∃ t, exec i s = .next t ∧ (∀ j, j < 8 → t.regs.a.getLsbD j = f (s.regs.a.getLsbD j) (v.getLsbD j)) ∧
          FlagsAre t (decide (t.regs.a.toNat = 0)) false h false ∧ SameRegsBut [.A] s t ∧ t.sp = s.sp ∧
          Advances s t len cycles ∧ SameOutside s t) ∧
      EncodedAs (.aluR op r) [base + code8 r] ∧ EncodedAs (.aluM op) [base + 6] ∧
      EncodedAs (.aluN op n) [base + 0x46, n.toNat]

/-- 43_arith8.md R234 to R237: C is kept; the (HL) forms read once and write once. -/
def Obligations.IncrementAndDecrement : Prop :=
  ∀ (s : State) (r : Reg8),
    (EncodedAs (.incR r) [4 + 8 * code8 r] ∧
      ComputesByte (.incR r) s r (((s.reg r).toNat + 1) % 256) (decide ((s.reg r).toNat = 255)) false
        (decide ((s.reg r).toNat % 16 = 15)) s.fC 1 1) ∧
    (EncodedAs (.decR r) [5 + 8 * code8 r] ∧
      ComputesByte (.decR r) s r (((s.reg r).toNat + 255) % 256) (decide ((s.reg r).toNat = 1)) true
        (decide ((s.reg r).toNat % 16 = 0)) s.fC 1 1) ∧
    (EncodedAs .inc_mHL [0x34] ∧
      RewritesByte .inc_mHL s (((s.busRead s.hl).toNat + 1) % 256)
        (flagsNat (decide ((s.busRead s.hl).toNat = 255)) false (decide ((s.busRead s.hl).toNat % 16 = 15)) s.fC) 1 3) ∧
    (EncodedAs .dec_mHL [0x35] ∧
      RewritesByte .dec_mHL s (((s.busRead s.hl).toNat + 255) % 256)
        (flagsNat (decide ((s.busRead s.hl).toNat = 1)) true (decide ((s.busRead s.hl).toNat % 16 = 0)) s.fC) 1 3)

/-- 43_arith8.md R238 with 40_alu.md R139. -/
def Obligations.DecimalAdjust : Prop :=
  ∀ (s : State) (v lo hi w : Nat), v = s.regs.a.toNat →
    lo = (if s.fH = true ∨ (s.fN = false ∧ v % 16 > 9) then 6 else 0) →
    hi = (if s.fC = true ∨ (s.fN = false ∧ v > 0x99) then 0x60 else 0) →
    w = (if s.fN = true then (v + 256 - (lo + hi)) % 256 else (v + lo + hi) % 256) →
    EncodedAs .daa [0x27] ∧ ComputesByte .daa s .A w (decide (w = 0)) s.fN false (decide (hi = 0x60)) 1 1

/-- 43_arith8.md R239 to R241. -/
def Obligations.FlagInstructions : Prop :=
  ∀ s : State,
    (EncodedAs .cpl [0x2F] ∧ ComputesByte .cpl s .A (255 - s.regs.a.toNat) s.fZ true true s.fC 1 1) ∧
    (EncodedAs .scf [0x37] ∧ ComputesFlags .scf s s.fZ false false true 1 1) ∧
    (EncodedAs .ccf [0x3F] ∧ ComputesFlags .ccf s s.fZ false false (!s.fC) 1 1)

/-! ## 16-bit arithmetic -/

/-- 44_arith16.md R250 to R252. -/
def Obligations.PairArithmetic : Prop :=
  ∀ (s : State) (p : Pair),
    (EncodedAs (.addHL p) [9 + 16 * code16 p] ∧
      ∃ t, exec (.addHL p) s = .next t ∧ t.hl.toNat = (s.hl.toNat + (s.pair p).toNat) % 65536 ∧
        FlagsAre t s.fZ false (decide (s.hl.toNat % 4096 + (s.pair p).toNat % 4096 > 4095))
          (decide (s.hl.toNat + (s.pair p).toNat > 65535)) ∧
        SameRegsBut [.H, .L] s t ∧ t.sp = s.sp ∧ Advances s t 1 2 ∧ SameOutside s t) ∧
    (EncodedAs (.incPair p) [3 + 16 * code16 p] ∧
      ∃ t, exec (.incPair p) s = .next t ∧ (t.pair p).toNat = ((s.pair p).toNat + 1) % 65536 ∧ SamePairsBut p s t ∧
        Advances s t 1 2 ∧ SameOutside s t) ∧
    (EncodedAs (.decPair p) [11 + 16 * code16 p] ∧
      ∃ t, exec (.decPair p) s = .next t ∧ (t.pair p).toNat = ((s.pair p).toNat + 65535) % 65536 ∧
        SamePairsBut p s t ∧ Advances s t 1 2 ∧ SameOutside s t)

/-! ## Rotates, shifts and bits -/

/-- 45_rotate_shift_bit.md R260 to R263: Z is 0 even when A becomes 0. -/
def Obligations.RotateAccumulator : Prop :=
  ∀ (s : State) (i : Instr) (op : RotOp) (byte : Nat),
    (i, op, byte) = (.rlca, .rlc, 0x07) ∨ (i, op, byte) = (.rrca, .rrc, 0x0F) ∨ (i, op, byte) = (.rla, .rl, 0x17) ∨
      (i, op, byte) = (.rra, .rr, 0x1F) →
    EncodedAs i [byte] ∧
      ComputesByte i s .A (rotated op s.regs.a.toNat s.fC.toNat).1 false false false
        (decide ((rotated op s.regs.a.toNat s.fC.toNat).2 = 1)) 1 1

/-- The register forms: 45_rotate_shift_bit.md R264, R266, R268, R270, R272, R274, R276, R278. -/
def Obligations.RotateRegister : Prop :=
  ∀ (s : State) (op : RotOp) (r : Reg8),
    EncodedAs (.rotR op r) [0xCB, 8 * rotCode op + code8 r] ∧
      ComputesByte (.rotR op r) s r (rotated op (s.reg r).toNat s.fC.toNat).1
        (decide ((rotated op (s.reg r).toNat s.fC.toNat).1 = 0)) false false
        (decide ((rotated op (s.reg r).toNat s.fC.toNat).2 = 1)) 2 2

/-- The (HL) forms: 45_rotate_shift_bit.md R265, R267, R269, R271, R273, R275, R277, R279. -/
def Obligations.RotateMemory : Prop :=
  ∀ (s : State) (op : RotOp) (v c : Nat), (v, c) = rotated op (s.busRead s.hl).toNat s.fC.toNat →
    EncodedAs (.rotM op) [0xCB, 8 * rotCode op + 6] ∧
      RewritesByte (.rotM op) s v (flagsNat (decide (v = 0)) false false (decide (c = 1))) 2 4

/-- 45_rotate_shift_bit.md R280 and R281: Z is the complement of the tested bit. -/
def Obligations.BitTestForms : Prop :=
  ∀ (s : State) (b : Fin 8) (r : Reg8),
    (EncodedAs (.bitR b r) [0xCB, 64 + 8 * b.val + code8 r] ∧
      ComputesFlags (.bitR b r) s (decide ((s.reg r).toNat / 2 ^ b.val % 2 = 0)) false true s.fC 2 2) ∧
    (EncodedAs (.bit_b_mHL b) [0xCB, 70 + 8 * b.val] ∧
      ComputesFlags (.bit_b_mHL b) s (decide ((s.busRead s.hl).toNat / 2 ^ b.val % 2 = 0)) false true s.fC 2 3)

/-- 45_rotate_shift_bit.md R282 to R285: one bit of the operand changes and no flag does. -/
def Obligations.ResetAndSetBit : Prop :=
  ∀ (s : State) (b : Fin 8) (r : Reg8),
    (EncodedAs (.resR b r) [0xCB, 128 + 8 * b.val + code8 r] ∧
      LoadsByte (.resR b r) s r
        (BitVec.ofNat 8 ((s.reg r).toNat - (s.reg r).toNat / 2 ^ b.val % 2 * 2 ^ b.val)) 2 2) ∧
    (EncodedAs (.setR b r) [0xCB, 192 + 8 * b.val + code8 r] ∧
      LoadsByte (.setR b r) s r
        (BitVec.ofNat 8 ((s.reg r).toNat + (1 - (s.reg r).toNat / 2 ^ b.val % 2) * 2 ^ b.val)) 2 2) ∧
    (EncodedAs (.res_b_mHL b) [0xCB, 134 + 8 * b.val] ∧
      RewritesByte (.res_b_mHL b) s
        ((s.busRead s.hl).toNat - (s.busRead s.hl).toNat / 2 ^ b.val % 2 * 2 ^ b.val) s.regs.f.toNat 2 4) ∧
    (EncodedAs (.set_b_mHL b) [0xCB, 198 + 8 * b.val] ∧
      RewritesByte (.set_b_mHL b) s
        ((s.busRead s.hl).toNat + (1 - (s.busRead s.hl).toNat / 2 ^ b.val % 2) * 2 ^ b.val) s.regs.f.toNat 2 4)

/-! ## Control transfer -/

/-- 46_control.md R290 to R294. -/
def Obligations.JumpForms : Prop :=
  ∀ (s : State) (nn : Word) (e : Byte) (cc : Cond),
    (EncodedAs (.jp_nn nn) [0xC3, nn.toNat % 256, nn.toNat / 256] ∧ JumpsTo (.jp_nn nn) s nn.toNat 4) ∧
    (EncodedAs .jp_HL [0xE9] ∧ JumpsTo .jp_HL s s.hl.toNat 1) ∧
    (EncodedAs (.jr_e e) [0x18, e.toNat] ∧ JumpsTo (.jr_e e) s (signedSum (s.pc + 2) e) 3) ∧
    (EncodedAs (.jpCond cc nn) [0xC2 + 8 * codeCond cc, nn.toNat % 256, nn.toNat / 256] ∧
      (s.cond cc = true → JumpsTo (.jpCond cc nn) s nn.toNat 4) ∧
      (s.cond cc = false → JumpsTo (.jpCond cc nn) s ((s.pc.toNat + 3) % 65536) 3)) ∧
    (EncodedAs (.jrCond cc e) [0x20 + 8 * codeCond cc, e.toNat] ∧
      (s.cond cc = true → JumpsTo (.jrCond cc e) s (signedSum (s.pc + 2) e) 3) ∧
      (s.cond cc = false → JumpsTo (.jrCond cc e) s ((s.pc.toNat + 2) % 65536) 2))

/-- 46_control.md R295, R296 and R300, with the push of 42_load16_stack.md R201 (the order of its two writes is the
spec's decision D4). -/
def Obligations.CallForms : Prop :=
  ∀ (s : State) (nn : Word) (cc : Cond) (y : Fin 8),
    (EncodedAs (.call_nn nn) [0xCD, nn.toNat % 256, nn.toNat / 256] ∧
      ∃ t, exec (.call_nn nn) s = .next t ∧ SameRegs s t ∧ GoesTo s t nn.toNat 6 ∧ Pushed s t (s.pc + 3)) ∧
    (EncodedAs (.callCond cc nn) [0xC4 + 8 * codeCond cc, nn.toNat % 256, nn.toNat / 256] ∧
      (s.cond cc = true →
        ∃ t, exec (.callCond cc nn) s = .next t ∧ SameRegs s t ∧ GoesTo s t nn.toNat 6 ∧ Pushed s t (s.pc + 3)) ∧
      (s.cond cc = false → JumpsTo (.callCond cc nn) s ((s.pc.toNat + 3) % 65536) 3)) ∧
    (EncodedAs (.rst y) [0xC7 + 8 * y.val] ∧
      ∃ t, exec (.rst y) s = .next t ∧ SameRegs s t ∧ GoesTo s t (8 * y.val) 4 ∧ Pushed s t (s.pc + 1))

/-- 46_control.md R297 to R299, with the pop of 42_load16_stack.md R202 (the spec's decisions D4, D12): RETI also sets
IME. -/
def Obligations.ReturnForms : Prop :=
  ∀ (s : State) (cc : Cond) (i : Instr) (byte cycles : Nat),
    (i, byte, cycles) = (.ret, 0xC9, 4) ∨ (i, byte, cycles) = (.reti, 0xD9, 4) ∨
      (i, byte, cycles) = (.retCond cc, 0xC0 + 8 * codeCond cc, 5) →
    EncodedAs i [byte] ∧
    ((i = .retCond cc → s.cond cc = true) →
      ∃ t, exec i s = .next t ∧ SameRegs s t ∧
        GoesTo s t (256 * (s.busRead (s.sp + 1)).toNat + (s.busRead s.sp).toNat) cycles ∧
        t.sp.toNat = (s.sp.toNat + 2) % 65536 ∧ SameOutside { s with ime := s.ime || decide (i = .reti) } t) ∧
    (i = .retCond cc → s.cond cc = false → JumpsTo i s ((s.pc.toNat + 1) % 65536) 2)

/-! ## System instructions -/

/-- 47_system.md R310 and R311. -/
def Obligations.NopAndDi : Prop :=
  ∀ s : State, (EncodedAs .nop [0x00] ∧ JumpsTo .nop s ((s.pc.toNat + 1) % 65536) 1) ∧
    (EncodedAs .di [0xF3] ∧ ∃ t, exec .di s = .next t ∧ SameRegs s t ∧ t.sp = s.sp ∧ Advances s t 1 1 ∧ t.ime = false ∧
      SameOutside { s with ime := false } t)

/-- 47_system.md R314 and R312 (the spec's decisions D12, D13): EI takes effect at once; HALT idles the CPU. -/
def Obligations.EiAndHalt : Prop :=
  ∀ s : State, (EncodedAs .ei [0xFB] ∧ ∃ t, exec .ei s = .next t ∧ SameRegs s t ∧ t.sp = s.sp ∧ Advances s t 1 1 ∧
      t.ime = true ∧ SameOutside { s with ime := true } t) ∧
    (EncodedAs .halt [0x76] ∧ ∃ t, exec .halt s = .next t ∧ SameRegs s t ∧ t.sp = s.sp ∧
      t.pc.toNat = (s.pc.toNat + 1) % 65536 ∧ t.cpuNext = .idle ∧ SameOutside s t)

/-! ## The bus and the stored bytes -/

/-- At an address that no component owns a read answers 0xFF and a write changes nothing (20_memory.md R64, R65). -/
def Obligations.UnownedAddresses : Prop :=
  ∀ (s : State) (a : Word) (v : Byte), (∀ d ∈ s.bus, d.owns a = false) → s.busRead a = 0xFF#8 ∧ s.busWrite a v = s

/-- IF and IE on the bus (10_state.md R29, R30): all eight bits are stored and read back; a write of one leaves the other
and every other core register alone. -/
def Obligations.CpuRegistersOnTheBus : Prop :=
  ∀ (s : State) (v : Byte), corePlatform s.bus →
    s.busRead Config.regIf = s.iflag ∧ s.busRead Config.regIe = s.ie ∧
    (s.busWrite Config.regIf v).iflag = v ∧ (s.busWrite Config.regIe v).ie = v ∧
    (s.busWrite Config.regIf v).ie = s.ie ∧ (s.busWrite Config.regIe v).iflag = s.iflag ∧
    (∀ a, a = Config.regIf ∨ a = Config.regIe → (s.busWrite a v).timer = s.timer ∧ (s.busWrite a v).lcd = s.lcd ∧
      (s.busWrite a v).dma = s.dma ∧ (s.busWrite a v).regs = s.regs ∧ (s.busWrite a v).sp = s.sp ∧
      (s.busWrite a v).ime = s.ime)

/-- On the default platform, its overlay on or off, a store at any address but DIV, TAC, LCDC and LYC changes at most the
byte read at that address and, for work RAM and its echo, at the other one (log entries 2, 29; 20_memory.md R72, R73). -/
def Obligations.ConsoleStoreFrame : Prop :=
  ∀ (s : State) (on : Bool) (a b : Word) (v : Byte), s.bus = consolePlatform.map (Component.setEnabled on) →
    a ≠ Config.regDiv → a ≠ Config.regTac → a ≠ Config.regLcdc → a ≠ Config.regLyc → a ≠ b →
    ¬(0xC000 ≤ a.toNat ∧ a.toNat ≤ 0xFDFF ∧ 0xC000 ≤ b.toNat ∧ b.toNat ≤ 0xFDFF ∧
      (a.toNat + 0x2000 = b.toNat ∨ b.toNat + 0x2000 = a.toNat)) →
    (s.busWrite a v).busRead b = s.busRead b

/-- In canonical form, memories that read the same everywhere are equal data; writes of different keys commute, and of two
writes of one key the last counts, as data. -/
def Obligations.CanonicalMemory : Prop :=
  (∀ m n : Memory, m.wf → n.wf → (∀ k, m.read k = n.read k) → m = n) ∧
  (∀ (m : Memory) (k j : Nat) (v w : Byte), m.wf →
    (j ≠ k → (m.write k v).write j w = (m.write j w).write k v) ∧ (m.write k v).write k w = m.write k w)

/-! ## The timer -/

/-- The timer's step (48_timer.md R321 to R323): `main` counts every cycle; a falling edge of the selected bit, seen
only while TAC[2] is set, counts TIMA; an overflow reloads TMA and requests the interrupt in the same cycle. -/
def Obligations.TimerCountsFallingEdges : Prop :=
  ∀ (s : State) (bit : Nat) (falls : Prop), [9, 3, 5, 7][s.timer.tac.toNat % 4]? = some bit →
    (falls ↔ 4 ≤ s.timer.tac.toNat ∧ s.timer.main.toNat.testBit bit = true ∧
      ((s.timer.main.toNat + 1) % 65536).testBit bit = false) →
    s.timerCycle.timer.main.toNat = (s.timer.main.toNat + 1) % 65536 ∧ s.timerCycle.timer.tma = s.timer.tma ∧
    s.timerCycle.timer.tac = s.timer.tac ∧
    (¬falls → s.timerCycle.timer.tima = s.timer.tima ∧ s.timerCycle.iflag = s.iflag) ∧
    (falls → s.timer.tima.toNat < 255 →
      s.timerCycle.timer.tima.toNat = s.timer.tima.toNat + 1 ∧ s.timerCycle.iflag = s.iflag) ∧
    (falls → s.timer.tima.toNat = 255 →
      s.timerCycle.timer.tima = s.timer.tma ∧ s.timerCycle.iflag = s.iflag ||| 0x04#8) ∧
    s.timerCycle = { s with timer := s.timerCycle.timer, iflag := s.timerCycle.iflag }

/-- A write of TIMA or TMA replaces the register and does nothing else; a write of DIV clears all 16 bits of `main`, and
counts TIMA if the timer's signal was 1; a write of TAC counts it if the signal falls (48_timer.md R325 to R327). A read
of DIV gives the top byte of `main`, and TAC's bits 7 to 3 read 0 (R324). -/
def Obligations.TimerRegisterWrites : Prop :=
  ∀ (s : State) (v : Byte), corePlatform s.bus →
    (s.busRead Config.regDiv).toNat = s.timer.main.toNat / 256 ∧ s.busRead Config.regTima = s.timer.tima ∧
    s.busRead Config.regTma = s.timer.tma ∧ (s.busRead Config.regTac).toNat = s.timer.tac.toNat ∧
    (s.busWrite Config.regTima v).timer = { s.timer with tima := v } ∧
    (s.busWrite Config.regTima v).iflag = s.iflag ∧
    (s.busWrite Config.regTma v).timer = { s.timer with tma := v } ∧ (s.busWrite Config.regTma v).iflag = s.iflag ∧
    (s.busWrite Config.regDiv v).timer.main = 0#16 ∧ (s.busWrite Config.regDiv v).busRead Config.regDiv = 0#8 ∧
    (s.timer.signal = false →
      (s.busWrite Config.regDiv v).timer = { s.timer with main := 0#16 } ∧
        (s.busWrite Config.regDiv v).iflag = s.iflag) ∧
    (s.timer.signal = true → s.timer.tima ≠ 0xFF#8 →
      (s.busWrite Config.regDiv v).timer = { s.timer with main := 0#16, tima := s.timer.tima + 1 } ∧
        (s.busWrite Config.regDiv v).iflag = s.iflag) ∧
    (s.timer.signal = true → s.timer.tima = 0xFF#8 →
      (s.busWrite Config.regDiv v).timer = { s.timer with main := 0#16, tima := s.timer.tma } ∧
        (s.busWrite Config.regDiv v).iflag = s.iflag ||| 0x04#8) ∧
    (∀ after : Timer, after = { s.timer with tac := BitVec.ofNat 3 v.toNat } →
      (¬(s.timer.signal = true ∧ after.signal = false) →
        (s.busWrite Config.regTac v).timer = after ∧ (s.busWrite Config.regTac v).iflag = s.iflag) ∧
      (s.timer.signal = true → after.signal = false → s.timer.tima ≠ 0xFF#8 →
        (s.busWrite Config.regTac v).timer = { after with tima := s.timer.tima + 1 } ∧
          (s.busWrite Config.regTac v).iflag = s.iflag) ∧
      (s.timer.signal = true → after.signal = false → s.timer.tima = 0xFF#8 →
        (s.busWrite Config.regTac v).timer = { after with tima := s.timer.tma } ∧
          (s.busWrite Config.regTac v).iflag = s.iflag ||| 0x04#8))

/-- TIMA's period (48_timer.md R329): over n cycles an enabled timer counts once for each multiple of the period that
`main` reaches; a disabled one counts nothing. -/
def Obligations.TimerPeriod : Prop :=
  ∀ (t : Timer) (n period count : Nat), [1024, 16, 64, 256][t.tac.toNat % 4]? = some period →
    count = (t.main.toNat + n) / period - t.main.toNat / period →
    (Timer.ticks n t).1.main.toNat = (t.main.toNat + n) % 65536 ∧
    (4 ≤ t.tac.toNat → t.tima.toNat + count ≤ 255 →
      (Timer.ticks n t).1.tima.toNat = t.tima.toNat + count ∧ (Timer.ticks n t).2 = 0#8) ∧
    (t.tac.toNat < 4 → (Timer.ticks n t).1.tima = t.tima ∧ (Timer.ticks n t).2 = 0#8)

/-! ## The LCD controller -/

/-- The mode state machine (49_lcd_dma.md R350 to R352): one transition from each mode, when its cycle has come. The end
of Mode 2 composes the line, which a line beyond the frame leaves out (log entry 16), and counts the window's line when
the window was drawn (R373). -/
def Obligations.LcdModeTransitions : Prop :=
  ∀ (read : Word → Byte) (l m : Lcd) (q : Byte) (c : Nat), l.next = .activeAt c → l.cycleModes read c = (m, q) →
    Lcd.SameSettings l m ∧
    (l.mode.toNat = 2 → m.mode.toNat = 3 ∧ m.next = .activeAt (c + 43) ∧ m.ly = l.ly ∧
      m.stat.getLsbD 2 = l.stat.getLsbD 2 ∧ m.builder = l.builder.set l.ly.toNat (Compose.line read l) ∧
      m.winLine = (if l.winActive = true ∧ l.wy.toNat ≤ l.ly.toNat then l.winLine + 1 else l.winLine) ∧
      m.image = l.image ∧ q = 0#8) ∧
    (l.mode.toNat = 3 → m.mode.toNat = 0 ∧ m.next = .activeAt (c + 51) ∧ m.ly = l.ly ∧
      m.stat.getLsbD 2 = l.stat.getLsbD 2 ∧ m.builder = l.builder ∧ m.image = l.image ∧ m.winLine = l.winLine ∧
      q = lcdRequests false (l.stat.getLsbD 3)) ∧
    (l.mode.toNat = 0 → l.ly.toNat = 143 → m.mode.toNat = 1 ∧ m.next = .activeAt (c + 114) ∧ m.ly.toNat = 144 ∧
      m.stat.getLsbD 2 = decide (l.lyc.toNat = 144) ∧ m.image = l.builder ∧ m.builder = l.builder ∧
      m.winLine = l.winLine ∧
      q = lcdRequests true (l.stat.getLsbD 4 || (l.stat.getLsbD 6 && decide (l.lyc.toNat = 144)))) ∧
    (l.mode.toNat = 0 → l.ly.toNat ≠ 143 → m.mode.toNat = 2 ∧ m.next = .activeAt (c + 20) ∧ m.ly = l.ly + 1 ∧
      m.stat.getLsbD 2 = decide (m.ly = l.lyc) ∧ m.image = l.image ∧ m.builder = l.builder ∧ m.winLine = l.winLine ∧
      q = lcdRequests false (l.stat.getLsbD 5 || (l.stat.getLsbD 6 && decide (m.ly = l.lyc)))) ∧
    (l.mode.toNat = 1 → l.ly.toNat = 153 → m.mode.toNat = 2 ∧ m.next = .activeAt (c + 20) ∧ m.ly.toNat = 0 ∧
      m.stat.getLsbD 2 = decide (l.lyc.toNat = 0) ∧ m.image = l.image ∧ m.builder = blankFrame ∧ m.winLine = 0 ∧
      q = lcdRequests false (l.stat.getLsbD 5 || (l.stat.getLsbD 6 && decide (l.lyc.toNat = 0)))) ∧
    (l.mode.toNat = 1 → l.ly.toNat ≠ 153 → m.mode.toNat = 1 ∧ m.next = .activeAt (c + 114) ∧ m.ly = l.ly + 1 ∧
      m.stat.getLsbD 2 = decide (m.ly = l.lyc) ∧ m.image = l.image ∧ m.builder = l.builder ∧ m.winLine = l.winLine ∧
      q = lcdRequests false (l.stat.getLsbD 6 && decide (m.ly = l.lyc)))

/-- Off and on (49_lcd_dma.md R347, R348; the spec's decision D29): a write of LCDC that clears bit 7 turns the LCD off
at once, keeps every other register but LY and STAT's low three bits, and recomputes the window flag (R372); while it is
off its step does nothing; the first step that finds bit 7 set enters Mode 2 of line 0 and keeps the window's counter
and both frames. -/
def Obligations.LcdOffAndOn : Prop :=
  (∀ (s : State) (v : Byte), corePlatform s.bus → s.lcd.lcdc.getLsbD 7 = true → v.getLsbD 7 = false →
    (s.busWrite Config.regLcdc v).lcd.lcdc = v ∧ (s.busWrite Config.regLcdc v).lcd.mode.toNat = 0 ∧
    (s.busWrite Config.regLcdc v).lcd.ly = 0#8 ∧ (s.busWrite Config.regLcdc v).lcd.winLine = 0 ∧
    (s.busWrite Config.regLcdc v).lcd.builder = blankFrame ∧ (s.busWrite Config.regLcdc v).lcd.next = .idle ∧
    (s.busWrite Config.regLcdc v).lcd.image = s.lcd.image ∧ (s.busWrite Config.regLcdc v).dma = s.dma ∧
    (s.busWrite Config.regLcdc v).lcd.stat.getLsbD 2 = decide (s.lcd.lyc = 0#8) ∧
    (s.busWrite Config.regLcdc v).lcd.stat.toNat / 8 = s.lcd.stat.toNat / 8 ∧
    (s.busWrite Config.regLcdc v).lcd.winActive = (v.getLsbD 5 && decide (7 ≤ s.lcd.wx.toNat ∧ s.lcd.wx.toNat ≤ 166)) ∧
    (s.busWrite Config.regLcdc v).lcd =
      { s.lcd with lcdc := v, stat := (s.busWrite Config.regLcdc v).lcd.stat, ly := 0#8, winLine := 0,
                   winActive := (s.busWrite Config.regLcdc v).lcd.winActive, builder := blankFrame, next := .idle } ∧
    (s.busWrite Config.regLcdc v).timer = s.timer ∧ (s.busWrite Config.regLcdc v).ie = s.ie ∧
    (s.busWrite Config.regLcdc v).iflag =
      s.iflag ||| lcdRequests false (s.lcd.stat.getLsbD 6 && decide (s.lcd.lyc = 0#8))) ∧
  (∀ (read : Word → Byte) (l : Lcd) (c : Nat), l.next = .idle →
    (l.lcdc.getLsbD 7 = false → l.cycleModes read c = (l, 0#8)) ∧
    (l.lcdc.getLsbD 7 = true → (l.cycleModes read c).1.mode.toNat = 2 ∧
      (l.cycleModes read c).1.next = .activeAt (c + 20) ∧ Lcd.SameSettings l (l.cycleModes read c).1 ∧
      (l.cycleModes read c).1.ly = l.ly ∧ (l.cycleModes read c).1.stat.getLsbD 2 = l.stat.getLsbD 2 ∧
      (l.cycleModes read c).1.winLine = l.winLine ∧ (l.cycleModes read c).1.builder = l.builder ∧
      (l.cycleModes read c).1.image = l.image ∧
      (l.cycleModes read c).2 = lcdRequests false (l.stat.getLsbD 5)))

/-- Writes of the LCD registers (49_lcd_dma.md R345, R352, R372, R381; LCDC turned off: see LcdOffAndOn): STAT keeps its
low three bits, LY ignores writes, LYC is compared at once, DMA starts a transfer, WX and LCDC recompute the window
flag; the others take the byte. Reads of the twelve addresses give the registers in order (R342). -/
def Obligations.LcdRegisterWrites : Prop :=
  ∀ (s : State) (v : Byte) (k : Nat) (t : State), corePlatform s.bus → k ≤ 11 →
    t = s.busWrite (0xFF40#16 + BitVec.ofNat 16 k) v →
    [s.lcd.lcdc, s.lcd.stat, s.lcd.scy, s.lcd.scx, s.lcd.ly, s.lcd.lyc, s.lcd.dmaReg, s.lcd.bgp, s.lcd.obp0, s.lcd.obp1,
      s.lcd.wy, s.lcd.wx][k]? = some (s.busRead (0xFF40#16 + BitVec.ofNat 16 k)) ∧
    (k ≠ 6 → t.dma = s.dma) ∧ (k ≠ 0 → k ≠ 5 → t.iflag = s.iflag) ∧ t.ie = s.ie ∧ t.timer = s.timer ∧
    (k = 0 → (s.lcd.lcdc.getLsbD 7 = true → v.getLsbD 7 = true) →
      t.lcd = { s.lcd with lcdc := v, winActive := v.getLsbD 5 && decide (7 ≤ s.lcd.wx.toNat ∧ s.lcd.wx.toNat ≤ 166) } ∧
        t.iflag = s.iflag) ∧
    (k = 1 → t.lcd = { s.lcd with stat := BitVec.ofNat 8 (v.toNat / 8 * 8 + s.lcd.stat.toNat % 8) }) ∧
    (k = 2 → t.lcd = { s.lcd with scy := v }) ∧ (k = 3 → t.lcd = { s.lcd with scx := v }) ∧ (k = 4 → t.lcd = s.lcd) ∧
    (k = 5 → t.lcd = { s.lcd with lyc := v, stat := t.lcd.stat } ∧ t.lcd.stat.getLsbD 2 = decide (s.lcd.ly = v) ∧
      (∀ i, i ≠ 2 → t.lcd.stat.getLsbD i = s.lcd.stat.getLsbD i) ∧
      t.iflag = s.iflag ||| lcdRequests false (s.lcd.stat.getLsbD 6 && decide (s.lcd.ly = v))) ∧
    (k = 6 → t.lcd = { s.lcd with dmaReg := v } ∧ t.dma = ⟨true, BitVec.ofNat 16 (256 * v.toNat), 0⟩) ∧
    (k = 7 → t.lcd = { s.lcd with bgp := v }) ∧ (k = 8 → t.lcd = { s.lcd with obp0 := v }) ∧
    (k = 9 → t.lcd = { s.lcd with obp1 := v }) ∧ (k = 10 → t.lcd = { s.lcd with wy := v }) ∧
    (k = 11 → t.lcd = { s.lcd with
      wx := v, winActive := s.lcd.lcdc.getLsbD 5 && decide (7 ≤ v.toNat ∧ v.toNat ≤ 166) })

/-- A visible line's timeline (49_lcd_dma.md R353, R349; the lengths are the spec's decision D25): from the Mode 2 entry
at cycle c, Mode 2 for 20 cycles, Mode 3 for 43, Mode 0 for 51, then the next line or the vertical blank. -/
def Obligations.LcdLineTimeline : Prop :=
  ∀ (read : Word → Byte) (l : Lcd) (c n : Nat), l.mode.toNat = 2 → l.next = .activeAt (c + 20) → l.ly.toNat ≤ 143 →
    (n < 20 → Lcd.cycles read (c + 1) n l = l) ∧
    (20 ≤ n → n < 63 → (Lcd.cycles read (c + 1) n l).mode.toNat = 3 ∧ (Lcd.cycles read (c + 1) n l).ly = l.ly) ∧
    (63 ≤ n → n < 114 → (Lcd.cycles read (c + 1) n l).mode.toNat = 0 ∧ (Lcd.cycles read (c + 1) n l).ly = l.ly) ∧
    (n = 114 → (Lcd.cycles read (c + 1) n l).ly.toNat = l.ly.toNat + 1 ∧
      (Lcd.cycles read (c + 1) n l).mode.toNat = (if l.ly.toNat = 143 then 1 else 2) ∧
      (Lcd.cycles read (c + 1) n l).next = .activeAt (c + 114 + (if l.ly.toNat = 143 then 114 else 20)))

/-- Where a pixel comes from (49_lcd_dma.md R366 to R368, R371, R373; the spec's decisions D31 to D34): the background
scrolled and wrapped, the window by its own line counter, a sprite layer's first sprite that paints the column; then the
composition of a line, pixel by pixel (R374), and the palettes (R375): index i maps to `(p >> (2 * i)) & 3`, and applying
a palette never changes opacity. -/
def Obligations.PixelPriority : Prop :=
  (∀ (read : Word → Byte) (l : Lcd) (x i : Nat),
    i = planeIndex read (l.lcdc.getLsbD 4) (if l.lcdc.getLsbD 3 = true then 0x9C00 else 0x9800)
      ((x + l.scx.toNat) % 256) ((l.ly.toNat + l.scy.toNat) % 256) →
    (l.lcdc.getLsbD 0 = true → PixelIs (Compose.backgroundPixel read l x) l.bgp i (decide (i ≠ 0))) ∧
    (l.lcdc.getLsbD 0 = false → Compose.backgroundPixel read l x = ⟨0#2, false⟩)) ∧
  (∀ (read : Word → Byte) (l : Lcd) (x i : Nat), 7 ≤ l.wx.toNat → l.wx.toNat ≤ x + 7 →
    i = planeIndex read (l.lcdc.getLsbD 4) (if l.lcdc.getLsbD 6 = true then 0x9C00 else 0x9800)
      (x - (l.wx.toNat - 7)) l.winLine →
    PixelIs (Compose.windowPixel read l x) l.bgp i (decide (i ≠ 0))) ∧
  (∀ (read : Word → Byte) (l : Lcd) (x : Nat) (group : List Compose.Sprite),
    ((∀ sp ∈ group, ¬spritePaints read l sp x) → Compose.layerPixel read l group x = ⟨0#2, false⟩) ∧
    (∀ (pre post : List Compose.Sprite) (sp : Compose.Sprite), group = pre ++ sp :: post →
      (∀ q ∈ pre, ¬spritePaints read l q x) → spritePaints read l sp x →
      PixelIs (Compose.layerPixel read l group x) (if sp.attr.getLsbD 4 = true then l.obp1 else l.obp0)
        (spriteIndex read l sp x) true)) ∧
  (∀ (read : Word → Byte) (l : Lcd) (x : Nat) (behind front bg win : Pixel) (sprites : List Compose.Sprite), x < 160 →
    sprites = Compose.sortByX (Compose.selectSprites read l) →
    behind = Compose.layerPixel read l (sprites.filter fun sp => sp.attr.getLsbD 7) x →
    front = Compose.layerPixel read l (sprites.filter fun sp => !sp.attr.getLsbD 7) x →
    bg = Compose.backgroundPixel read l x → win = Compose.windowPixel read l x →
    (Compose.line read l).color x =
      (if front.painted = true then front.color
        else if Compose.windowDrawn l = true ∧ l.wx.toNat ≤ x + 7 then win.color
        else if behind.painted = true ∧ bg.painted = false then behind.color else bg.color)) ∧
  (∀ (p : Byte) (i : BitVec 2), (ImageLine.paletteColor p i).toNat = p.toNat / 4 ^ i.toNat % 4) ∧
  (∀ (n : Nat) (a : ImageLine n) (p : Byte) (x : Nat), x < n →
    (a.mapColors p).color x = ImageLine.paletteColor p (a.color x) ∧ (a.mapColors p).isOpaque x = a.isOpaque x)

/-- Sprite selection and order (49_lcd_dma.md R369, R370): the first ten entries in OAM order that are on the line, at
increasing places of which every place left out on the line stands after ten; then a stable sort by X. -/
def Obligations.SpriteSelectionAndOrder : Prop :=
  ∀ (read : Word → Byte) (l : Lcd) (selected sorted : List Compose.Sprite),
    selected = Compose.selectSprites read l → sorted = Compose.sortByX selected →
    selected.length ≤ 10 ∧ selected.Sublist ((List.range 40).map (Compose.sprite read)) ∧
    (∀ sp ∈ selected, sp.y.toNat ≤ l.ly.toNat + 16 ∧
      l.ly.toNat + 16 < sp.y.toNat + (if l.lcdc.getLsbD 2 = true then 16 else 8)) ∧
    (l.lcdc.getLsbD 1 = false → selected = []) ∧
    (l.lcdc.getLsbD 1 = true → ∃ places : List Nat, selected = places.map (Compose.sprite read) ∧
      places.Pairwise (· < ·) ∧ (∀ i ∈ places, i < 40) ∧
      ∀ i, i < 40 → (Compose.sprite read i).y.toNat ≤ l.ly.toNat + 16 →
        l.ly.toNat + 16 < (Compose.sprite read i).y.toNat + (if l.lcdc.getLsbD 2 = true then 16 else 8) →
        i ∈ places ∨ (places.length = 10 ∧ ∀ j ∈ places, j < i)) ∧
    (∀ i, i < 40 → Compose.sprite read i =
      ⟨read (BitVec.ofNat 16 (0xFE00 + 4 * i)), read (BitVec.ofNat 16 (0xFE00 + 4 * i + 1)),
        read (BitVec.ofNat 16 (0xFE00 + 4 * i + 2)), read (BitVec.ofNat 16 (0xFE00 + 4 * i + 3))⟩) ∧
    sorted.Perm selected ∧ sorted.Pairwise (fun p q => p.x.toNat ≤ q.x.toNat) ∧
    (∀ x : Byte, (sorted.filter fun sp => sp.x == x) = selected.filter fun sp => sp.x == x)

/-- The pixel data types' laws (49_lcd_dma.md R361, R363; the spec's decision D36). -/
def Obligations.PixelDataLaws : Prop :=
  (∀ (n : Nat) (v : BitVec n), 0 < n → Bits.shift v 0 = v ∧ Bits.extractWrapped v 0 n = v ∧
    Bits.extractZeroExtended v 0 n = v) ∧
  (∀ (n m : Nat) (v : BitVec n) (s : Int) (i : Nat), 0 < n →
    (i < m → (Bits.extractWrapped v s m).getLsbD i = v.getLsbD ((s + i) % n).toNat) ∧
    (i < m → (Bits.extractZeroExtended v s m).getLsbD i =
      (decide (0 ≤ s + i) && decide (s + i < n) && v.getLsbD (s + i).toNat)) ∧
    (i < n → (Bits.shift v s).getLsbD i = (decide (0 ≤ i - s) && decide (i - s < n) && v.getLsbD (i - s).toNat))) ∧
  (∀ (count : Nat) (m l : Nat → Byte) (k : Nat) (line : ImageLine (8 * count)), k < count →
    line = ((List.range count).foldl (fun d j => d.setBytes j (m j) (l j)) (LineBuilder.empty (8 * count))).build →
    line.msbByte k = m k ∧ line.lsbByte k = l k ∧
    ∀ x, x < 8 * count → line.isOpaque x = decide (line.color x ≠ 0#2))

/-! ## The DMA engine -/

/-- One step copies the next byte and changes the stored bytes and the engine alone, an idle engine nothing; and a whole
transfer (49_lcd_dma.md R380, R381): 160 DMA steps after a start copy the page's first 160 bytes to OAM and
end the transfer, when OAM's bytes are plain and no copied byte stands for a byte copied before it or for a source byte
still to be copied. -/
def Obligations.DmaCopiesThePage : Prop :=
  (∀ s : State, s.dma.active = false → s.dmaStep = s) ∧
  (∀ (s t : State) (k : Nat), s.dma.active = true → s.dma.offset = k → k < 160 → t = s.dmaStep →
    t = { s with mem := t.mem, dma := ⟨decide (k ≠ 159), s.dma.source, k + 1⟩ } ∧
    (plainByte s.bus (0xFE00#16 + BitVec.ofNat 16 k) = true →
      t.busRead (0xFE00#16 + BitVec.ofNat 16 k) = s.busRead (s.dma.source + BitVec.ofNat 16 k)) ∧
    (∀ b, affects s.bus (0xFE00#16 + BitVec.ofNat 16 k) b = false → t.busRead b = s.busRead b)) ∧
  ∀ (s : State) (page : Byte), s.dma = Dma.start page →
    (∀ k, k < 160 → plainByte s.bus (0xFE00#16 + BitVec.ofNat 16 k) = true) →
    (∀ k j, k < j → j < 160 →
      affects s.bus (0xFE00#16 + BitVec.ofNat 16 j) (0xFE00#16 + BitVec.ofNat 16 k) = false ∧
      affects s.bus (0xFE00#16 + BitVec.ofNat 16 k) (BitVec.ofNat 16 (256 * page.toNat + j)) = false) →
    (∀ k, k < 160 → (State.dmaSteps 160 s).busRead (0xFE00#16 + BitVec.ofNat 16 k) =
      s.busRead (BitVec.ofNat 16 (256 * page.toNat + k))) ∧
    (State.dmaSteps 160 s).dma = ⟨false, BitVec.ofNat 16 (256 * page.toNat), 160⟩ ∧
    (∀ b, (∀ k, k < 160 → affects s.bus (0xFE00#16 + BitVec.ofNat 16 k) b = false) →
      (State.dmaSteps 160 s).busRead b = s.busRead b)
end

