-- ==== Sys2Proof/Laws/Memory.lean ====
section
/-! SUPPORT. Stored bytes: reading back, leaving the rest alone, and the canonical form, which every operation keeps and
which makes equal contents equal lists. -/

namespace Sys2Proof.Machine.Memory

open Sys2Proof

theorem read_cons (c : Host.Cell) (m : Memory) (k : Nat) :
    read (c :: m) k = if c.1 = k then c.2 else read m k := rfl

@[simp] theorem read_nil (k : Nat) : read [] k = fill := rfl

theorem read_erase (m : Memory) (k j : Nat) : (m.erase k).read j = if j = k then fill else m.read j := by
  induction m with
  | nil => simp [erase]
  | cons c m ih =>
    simp only [erase] at ih ⊢
    by_cases h : c.1 = k
    · rw [List.filter_cons_of_neg (by simp [h]), ih, read_cons]
      split_ifs <;> simp_all
    · rw [List.filter_cons_of_pos (by simp [h]), read_cons, ih, read_cons]
      split_ifs <;> simp_all

theorem read_insert (m : Memory) (k j : Nat) (v : Byte) (hk : ∀ c ∈ m, c.1 ≠ k) :
    (m.insert k v).read j = if j = k then v else m.read j := by
  induction m with
  | nil => simp [insert, read_cons, eq_comm]
  | cons c m ih =>
    have hc : c.1 ≠ k := hk c (by simp)
    have ih := ih fun d hd => hk d (by simp [hd])
    rw [insert]
    by_cases hj : j = k
    · subst hj
      by_cases hlt : j < c.1 <;> simp [hlt, read_cons, ih, hc]
    · have hj' : k ≠ j := fun h => hj h.symm
      by_cases hlt : k < c.1 <;> simp [hlt, read_cons, ih, hj, hj']

theorem key_of_mem_erase {m : Memory} {k : Nat} {c : Host.Cell} (h : c ∈ m.erase k) : c.1 ≠ k := by
  simpa [erase] using (List.mem_filter.mp h).2

/-- A byte read after a write: the written one at its key, the old one elsewhere. -/
theorem read_write (m : Memory) (k j : Nat) (v : Byte) :
    (m.write k v).read j = if j = k then v else m.read j := by
  rw [write]
  split_ifs with hv h h
  · simp [read_erase, h, hv]
  · simp [read_erase, h]
  · rw [read_insert _ _ _ _ fun c hc => key_of_mem_erase hc, if_pos h]
  · rw [read_insert _ _ _ _ fun c hc => key_of_mem_erase hc, if_neg h, read_erase, if_neg h]

@[simp] theorem read_write_same (m : Memory) (k : Nat) (v : Byte) : (m.write k v).read k = v := by
  simp [read_write]

theorem read_write_other (m : Memory) {k j : Nat} (v : Byte) (h : j ≠ k) : (m.write k v).read j = m.read j := by
  simp [read_write, h]

theorem wf_erase {m : Memory} (h : m.wf) (k : Nat) : (m.erase k).wf :=
  ⟨h.1.filter _, fun c hc => h.2 c (List.mem_filter.mp hc).1⟩

theorem mem_insert {m : Memory} {k : Nat} {v : Byte} {c : Host.Cell} :
    c ∈ m.insert k v ↔ c = (k, v) ∨ c ∈ m := by
  induction m with
  | nil => simp [insert]
  | cons d m ih => rw [insert]; split_ifs <;> simp_all; tauto

theorem wf_insert {m : Memory} (h : m.wf) {k : Nat} {v : Byte} (hv : v ≠ fill) (hk : ∀ c ∈ m, c.1 ≠ k) :
    (m.insert k v).wf := by
  refine ⟨?_, fun c hc => ?_⟩
  · induction m with
    | nil => simp [insert]
    | cons c m ih =>
      have hc : c.1 ≠ k := hk c (by simp)
      have hp := List.pairwise_cons.mp h.1
      have ih := ih ⟨hp.2, fun d hd => h.2 d (by simp [hd])⟩ fun d hd => hk d (by simp [hd])
      rw [insert]
      split_ifs with hlt
      · refine List.pairwise_cons.mpr ⟨fun d hd => ?_, h.1⟩
        rcases List.mem_cons.mp hd with rfl | hd
        · exact hlt
        · exact hlt.trans (hp.1 d hd)
      · refine List.pairwise_cons.mpr ⟨fun d hd => ?_, ih⟩
        rcases mem_insert.mp hd with rfl | hd
        · exact lt_of_le_of_ne (not_lt.mp hlt) hc
        · exact hp.1 d hd
  · rcases mem_insert.mp hc with rfl | hc
    · exact hv
    · exact h.2 c hc

/-- A write keeps the canonical form. -/
theorem wf_write {m : Memory} (h : m.wf) (k : Nat) (v : Byte) : (m.write k v).wf := by
  rw [write]
  split_ifs with hv
  · exact wf_erase h k
  · exact wf_insert (wf_erase h k) hv fun c hc => key_of_mem_erase hc

theorem wf_nil : wf [] := ⟨List.Pairwise.nil, by simp⟩

theorem read_of_forall_lt {m : Memory} {k : Nat} (h : ∀ c ∈ m, k < c.1) : m.read k = fill := by
  induction m with
  | nil => rfl
  | cons c m ih =>
    rw [read_cons, if_neg (h c (by simp)).ne', ih fun d hd => h d (by simp [hd])]

theorem wf_tail {c : Host.Cell} {m : Memory} (h : wf (c :: m)) : wf m :=
  ⟨(List.pairwise_cons.mp h.1).2, fun d hd => h.2 d (by simp [hd])⟩

theorem head_lt {c : Host.Cell} {m : Memory} (h : wf (c :: m)) : ∀ d ∈ m, c.1 < d.1 :=
  (List.pairwise_cons.mp h.1).1

end Sys2Proof.Machine.Memory
end

