-- ==== Sys2Proof/Laws/State.lean ====
section
/-! SUPPORT. One lemma per field and per named update of State: what each update leaves, and what it writes. -/

namespace Sys2Proof.Machine

open Sys2Proof

namespace State

variable (s : State)

/-! setReg -/

@[simp] theorem setReg_pc (r : Reg8) (v : Byte) : (s.setReg r v).pc = s.pc := by cases r <;> rfl
@[simp] theorem setReg_sp (r : Reg8) (v : Byte) : (s.setReg r v).sp = s.sp := by cases r <;> rfl
@[simp] theorem setReg_ime (r : Reg8) (v : Byte) : (s.setReg r v).ime = s.ime := by cases r <;> rfl
@[simp] theorem setReg_ie (r : Reg8) (v : Byte) : (s.setReg r v).ie = s.ie := by cases r <;> rfl
@[simp] theorem setReg_iflag (r : Reg8) (v : Byte) : (s.setReg r v).iflag = s.iflag := by cases r <;> rfl
@[simp] theorem setReg_cpuNext (r : Reg8) (v : Byte) : (s.setReg r v).cpuNext = s.cpuNext := by cases r <;> rfl
@[simp] theorem setReg_timer (r : Reg8) (v : Byte) : (s.setReg r v).timer = s.timer := by cases r <;> rfl
@[simp] theorem setReg_lcd (r : Reg8) (v : Byte) : (s.setReg r v).lcd = s.lcd := by cases r <;> rfl
@[simp] theorem setReg_dma (r : Reg8) (v : Byte) : (s.setReg r v).dma = s.dma := by cases r <;> rfl
@[simp] theorem setReg_mem (r : Reg8) (v : Byte) : (s.setReg r v).mem = s.mem := by cases r <;> rfl
@[simp] theorem setReg_bus (r : Reg8) (v : Byte) : (s.setReg r v).bus = s.bus := by cases r <;> rfl
@[simp] theorem setReg_cycle (r : Reg8) (v : Byte) : (s.setReg r v).cycle = s.cycle := by cases r <;> rfl
@[simp] theorem setReg_hostInputs (r : Reg8) (v : Byte) : (s.setReg r v).hostInputs = s.hostInputs := by cases r <;> rfl

/-! setF -/

@[simp] theorem setF_pc (v : Byte) : (s.setF v).pc = s.pc := rfl
@[simp] theorem setF_sp (v : Byte) : (s.setF v).sp = s.sp := rfl
@[simp] theorem setF_ime (v : Byte) : (s.setF v).ime = s.ime := rfl
@[simp] theorem setF_ie (v : Byte) : (s.setF v).ie = s.ie := rfl
@[simp] theorem setF_iflag (v : Byte) : (s.setF v).iflag = s.iflag := rfl
@[simp] theorem setF_cpuNext (v : Byte) : (s.setF v).cpuNext = s.cpuNext := rfl
@[simp] theorem setF_timer (v : Byte) : (s.setF v).timer = s.timer := rfl
@[simp] theorem setF_lcd (v : Byte) : (s.setF v).lcd = s.lcd := rfl
@[simp] theorem setF_dma (v : Byte) : (s.setF v).dma = s.dma := rfl
@[simp] theorem setF_mem (v : Byte) : (s.setF v).mem = s.mem := rfl
@[simp] theorem setF_bus (v : Byte) : (s.setF v).bus = s.bus := rfl
@[simp] theorem setF_cycle (v : Byte) : (s.setF v).cycle = s.cycle := rfl
@[simp] theorem setF_hostInputs (v : Byte) : (s.setF v).hostInputs = s.hostInputs := rfl

/-! setFlags -/

@[simp] theorem setFlags_pc (z n h c : Bool) : (s.setFlags z n h c).pc = s.pc := rfl
@[simp] theorem setFlags_sp (z n h c : Bool) : (s.setFlags z n h c).sp = s.sp := rfl
@[simp] theorem setFlags_ime (z n h c : Bool) : (s.setFlags z n h c).ime = s.ime := rfl
@[simp] theorem setFlags_ie (z n h c : Bool) : (s.setFlags z n h c).ie = s.ie := rfl
@[simp] theorem setFlags_iflag (z n h c : Bool) : (s.setFlags z n h c).iflag = s.iflag := rfl
@[simp] theorem setFlags_cpuNext (z n h c : Bool) : (s.setFlags z n h c).cpuNext = s.cpuNext := rfl
@[simp] theorem setFlags_timer (z n h c : Bool) : (s.setFlags z n h c).timer = s.timer := rfl
@[simp] theorem setFlags_lcd (z n h c : Bool) : (s.setFlags z n h c).lcd = s.lcd := rfl
@[simp] theorem setFlags_dma (z n h c : Bool) : (s.setFlags z n h c).dma = s.dma := rfl
@[simp] theorem setFlags_mem (z n h c : Bool) : (s.setFlags z n h c).mem = s.mem := rfl
@[simp] theorem setFlags_bus (z n h c : Bool) : (s.setFlags z n h c).bus = s.bus := rfl
@[simp] theorem setFlags_cycle (z n h c : Bool) : (s.setFlags z n h c).cycle = s.cycle := rfl
@[simp] theorem setFlags_hostInputs (z n h c : Bool) : (s.setFlags z n h c).hostInputs = s.hostInputs := rfl

/-! setAF -/

@[simp] theorem setAF_pc (v : Word) : (s.setAF v).pc = s.pc := rfl
@[simp] theorem setAF_sp (v : Word) : (s.setAF v).sp = s.sp := rfl
@[simp] theorem setAF_ime (v : Word) : (s.setAF v).ime = s.ime := rfl
@[simp] theorem setAF_ie (v : Word) : (s.setAF v).ie = s.ie := rfl
@[simp] theorem setAF_iflag (v : Word) : (s.setAF v).iflag = s.iflag := rfl
@[simp] theorem setAF_cpuNext (v : Word) : (s.setAF v).cpuNext = s.cpuNext := rfl
@[simp] theorem setAF_timer (v : Word) : (s.setAF v).timer = s.timer := rfl
@[simp] theorem setAF_lcd (v : Word) : (s.setAF v).lcd = s.lcd := rfl
@[simp] theorem setAF_dma (v : Word) : (s.setAF v).dma = s.dma := rfl
@[simp] theorem setAF_mem (v : Word) : (s.setAF v).mem = s.mem := rfl
@[simp] theorem setAF_bus (v : Word) : (s.setAF v).bus = s.bus := rfl
@[simp] theorem setAF_cycle (v : Word) : (s.setAF v).cycle = s.cycle := rfl
@[simp] theorem setAF_hostInputs (v : Word) : (s.setAF v).hostInputs = s.hostInputs := rfl

/-! setBC -/

@[simp] theorem setBC_pc (v : Word) : (s.setBC v).pc = s.pc := rfl
@[simp] theorem setBC_sp (v : Word) : (s.setBC v).sp = s.sp := rfl
@[simp] theorem setBC_ime (v : Word) : (s.setBC v).ime = s.ime := rfl
@[simp] theorem setBC_ie (v : Word) : (s.setBC v).ie = s.ie := rfl
@[simp] theorem setBC_iflag (v : Word) : (s.setBC v).iflag = s.iflag := rfl
@[simp] theorem setBC_cpuNext (v : Word) : (s.setBC v).cpuNext = s.cpuNext := rfl
@[simp] theorem setBC_timer (v : Word) : (s.setBC v).timer = s.timer := rfl
@[simp] theorem setBC_lcd (v : Word) : (s.setBC v).lcd = s.lcd := rfl
@[simp] theorem setBC_dma (v : Word) : (s.setBC v).dma = s.dma := rfl
@[simp] theorem setBC_mem (v : Word) : (s.setBC v).mem = s.mem := rfl
@[simp] theorem setBC_bus (v : Word) : (s.setBC v).bus = s.bus := rfl
@[simp] theorem setBC_cycle (v : Word) : (s.setBC v).cycle = s.cycle := rfl
@[simp] theorem setBC_hostInputs (v : Word) : (s.setBC v).hostInputs = s.hostInputs := rfl

/-! setDE -/

@[simp] theorem setDE_pc (v : Word) : (s.setDE v).pc = s.pc := rfl
@[simp] theorem setDE_sp (v : Word) : (s.setDE v).sp = s.sp := rfl
@[simp] theorem setDE_ime (v : Word) : (s.setDE v).ime = s.ime := rfl
@[simp] theorem setDE_ie (v : Word) : (s.setDE v).ie = s.ie := rfl
@[simp] theorem setDE_iflag (v : Word) : (s.setDE v).iflag = s.iflag := rfl
@[simp] theorem setDE_cpuNext (v : Word) : (s.setDE v).cpuNext = s.cpuNext := rfl
@[simp] theorem setDE_timer (v : Word) : (s.setDE v).timer = s.timer := rfl
@[simp] theorem setDE_lcd (v : Word) : (s.setDE v).lcd = s.lcd := rfl
@[simp] theorem setDE_dma (v : Word) : (s.setDE v).dma = s.dma := rfl
@[simp] theorem setDE_mem (v : Word) : (s.setDE v).mem = s.mem := rfl
@[simp] theorem setDE_bus (v : Word) : (s.setDE v).bus = s.bus := rfl
@[simp] theorem setDE_cycle (v : Word) : (s.setDE v).cycle = s.cycle := rfl
@[simp] theorem setDE_hostInputs (v : Word) : (s.setDE v).hostInputs = s.hostInputs := rfl

/-! setHL -/

@[simp] theorem setHL_pc (v : Word) : (s.setHL v).pc = s.pc := rfl
@[simp] theorem setHL_sp (v : Word) : (s.setHL v).sp = s.sp := rfl
@[simp] theorem setHL_ime (v : Word) : (s.setHL v).ime = s.ime := rfl
@[simp] theorem setHL_ie (v : Word) : (s.setHL v).ie = s.ie := rfl
@[simp] theorem setHL_iflag (v : Word) : (s.setHL v).iflag = s.iflag := rfl
@[simp] theorem setHL_cpuNext (v : Word) : (s.setHL v).cpuNext = s.cpuNext := rfl
@[simp] theorem setHL_timer (v : Word) : (s.setHL v).timer = s.timer := rfl
@[simp] theorem setHL_lcd (v : Word) : (s.setHL v).lcd = s.lcd := rfl
@[simp] theorem setHL_dma (v : Word) : (s.setHL v).dma = s.dma := rfl
@[simp] theorem setHL_mem (v : Word) : (s.setHL v).mem = s.mem := rfl
@[simp] theorem setHL_bus (v : Word) : (s.setHL v).bus = s.bus := rfl
@[simp] theorem setHL_cycle (v : Word) : (s.setHL v).cycle = s.cycle := rfl
@[simp] theorem setHL_hostInputs (v : Word) : (s.setHL v).hostInputs = s.hostInputs := rfl

/-! setSP -/

@[simp] theorem setSP_regs (v : Word) : (s.setSP v).regs = s.regs := rfl
@[simp] theorem setSP_pc (v : Word) : (s.setSP v).pc = s.pc := rfl
@[simp] theorem setSP_ime (v : Word) : (s.setSP v).ime = s.ime := rfl
@[simp] theorem setSP_ie (v : Word) : (s.setSP v).ie = s.ie := rfl
@[simp] theorem setSP_iflag (v : Word) : (s.setSP v).iflag = s.iflag := rfl
@[simp] theorem setSP_cpuNext (v : Word) : (s.setSP v).cpuNext = s.cpuNext := rfl
@[simp] theorem setSP_timer (v : Word) : (s.setSP v).timer = s.timer := rfl
@[simp] theorem setSP_lcd (v : Word) : (s.setSP v).lcd = s.lcd := rfl
@[simp] theorem setSP_dma (v : Word) : (s.setSP v).dma = s.dma := rfl
@[simp] theorem setSP_mem (v : Word) : (s.setSP v).mem = s.mem := rfl
@[simp] theorem setSP_bus (v : Word) : (s.setSP v).bus = s.bus := rfl
@[simp] theorem setSP_cycle (v : Word) : (s.setSP v).cycle = s.cycle := rfl
@[simp] theorem setSP_hostInputs (v : Word) : (s.setSP v).hostInputs = s.hostInputs := rfl

/-! setPair -/

@[simp] theorem setPair_pc (p : Pair) (v : Word) : (s.setPair p v).pc = s.pc := by cases p <;> rfl
@[simp] theorem setPair_ime (p : Pair) (v : Word) : (s.setPair p v).ime = s.ime := by cases p <;> rfl
@[simp] theorem setPair_ie (p : Pair) (v : Word) : (s.setPair p v).ie = s.ie := by cases p <;> rfl
@[simp] theorem setPair_iflag (p : Pair) (v : Word) : (s.setPair p v).iflag = s.iflag := by cases p <;> rfl
@[simp] theorem setPair_cpuNext (p : Pair) (v : Word) : (s.setPair p v).cpuNext = s.cpuNext := by cases p <;> rfl
@[simp] theorem setPair_timer (p : Pair) (v : Word) : (s.setPair p v).timer = s.timer := by cases p <;> rfl
@[simp] theorem setPair_lcd (p : Pair) (v : Word) : (s.setPair p v).lcd = s.lcd := by cases p <;> rfl
@[simp] theorem setPair_dma (p : Pair) (v : Word) : (s.setPair p v).dma = s.dma := by cases p <;> rfl
@[simp] theorem setPair_mem (p : Pair) (v : Word) : (s.setPair p v).mem = s.mem := by cases p <;> rfl
@[simp] theorem setPair_bus (p : Pair) (v : Word) : (s.setPair p v).bus = s.bus := by cases p <;> rfl
@[simp] theorem setPair_cycle (p : Pair) (v : Word) : (s.setPair p v).cycle = s.cycle := by cases p <;> rfl
@[simp] theorem setPair_hostInputs (p : Pair) (v : Word) : (s.setPair p v).hostInputs = s.hostInputs := by cases p <;> rfl

/-! setStackPair -/

@[simp] theorem setStackPair_pc (q : StackPair) (v : Word) : (s.setStackPair q v).pc = s.pc := by cases q <;> rfl
@[simp] theorem setStackPair_sp (q : StackPair) (v : Word) : (s.setStackPair q v).sp = s.sp := by cases q <;> rfl
@[simp] theorem setStackPair_ime (q : StackPair) (v : Word) : (s.setStackPair q v).ime = s.ime := by cases q <;> rfl
@[simp] theorem setStackPair_ie (q : StackPair) (v : Word) : (s.setStackPair q v).ie = s.ie := by cases q <;> rfl
@[simp] theorem setStackPair_iflag (q : StackPair) (v : Word) : (s.setStackPair q v).iflag = s.iflag := by cases q <;> rfl
@[simp] theorem setStackPair_cpuNext (q : StackPair) (v : Word) : (s.setStackPair q v).cpuNext = s.cpuNext := by cases q <;> rfl
@[simp] theorem setStackPair_timer (q : StackPair) (v : Word) : (s.setStackPair q v).timer = s.timer := by cases q <;> rfl
@[simp] theorem setStackPair_lcd (q : StackPair) (v : Word) : (s.setStackPair q v).lcd = s.lcd := by cases q <;> rfl
@[simp] theorem setStackPair_dma (q : StackPair) (v : Word) : (s.setStackPair q v).dma = s.dma := by cases q <;> rfl
@[simp] theorem setStackPair_mem (q : StackPair) (v : Word) : (s.setStackPair q v).mem = s.mem := by cases q <;> rfl
@[simp] theorem setStackPair_bus (q : StackPair) (v : Word) : (s.setStackPair q v).bus = s.bus := by cases q <;> rfl
@[simp] theorem setStackPair_cycle (q : StackPair) (v : Word) : (s.setStackPair q v).cycle = s.cycle := by cases q <;> rfl
@[simp] theorem setStackPair_hostInputs (q : StackPair) (v : Word) : (s.setStackPair q v).hostInputs = s.hostInputs := by cases q <;> rfl

/-! charge -/

@[simp] theorem charge_regs (n : Nat) : (s.charge n).regs = s.regs := rfl
@[simp] theorem charge_pc (n : Nat) : (s.charge n).pc = s.pc := rfl
@[simp] theorem charge_sp (n : Nat) : (s.charge n).sp = s.sp := rfl
@[simp] theorem charge_ime (n : Nat) : (s.charge n).ime = s.ime := rfl
@[simp] theorem charge_ie (n : Nat) : (s.charge n).ie = s.ie := rfl
@[simp] theorem charge_iflag (n : Nat) : (s.charge n).iflag = s.iflag := rfl
@[simp] theorem charge_timer (n : Nat) : (s.charge n).timer = s.timer := rfl
@[simp] theorem charge_lcd (n : Nat) : (s.charge n).lcd = s.lcd := rfl
@[simp] theorem charge_dma (n : Nat) : (s.charge n).dma = s.dma := rfl
@[simp] theorem charge_mem (n : Nat) : (s.charge n).mem = s.mem := rfl
@[simp] theorem charge_bus (n : Nat) : (s.charge n).bus = s.bus := rfl
@[simp] theorem charge_cycle (n : Nat) : (s.charge n).cycle = s.cycle := rfl
@[simp] theorem charge_hostInputs (n : Nat) : (s.charge n).hostInputs = s.hostInputs := rfl

/-! finish -/

@[simp] theorem finish_regs (len n : Nat) : (s.finish len n).regs = s.regs := rfl
@[simp] theorem finish_sp (len n : Nat) : (s.finish len n).sp = s.sp := rfl
@[simp] theorem finish_ime (len n : Nat) : (s.finish len n).ime = s.ime := rfl
@[simp] theorem finish_ie (len n : Nat) : (s.finish len n).ie = s.ie := rfl
@[simp] theorem finish_iflag (len n : Nat) : (s.finish len n).iflag = s.iflag := rfl
@[simp] theorem finish_timer (len n : Nat) : (s.finish len n).timer = s.timer := rfl
@[simp] theorem finish_lcd (len n : Nat) : (s.finish len n).lcd = s.lcd := rfl
@[simp] theorem finish_dma (len n : Nat) : (s.finish len n).dma = s.dma := rfl
@[simp] theorem finish_mem (len n : Nat) : (s.finish len n).mem = s.mem := rfl
@[simp] theorem finish_bus (len n : Nat) : (s.finish len n).bus = s.bus := rfl
@[simp] theorem finish_cycle (len n : Nat) : (s.finish len n).cycle = s.cycle := rfl
@[simp] theorem finish_hostInputs (len n : Nat) : (s.finish len n).hostInputs = s.hostInputs := rfl

/-! jump -/

@[simp] theorem jump_regs (a : Word) (n : Nat) : (s.jump a n).regs = s.regs := rfl
@[simp] theorem jump_sp (a : Word) (n : Nat) : (s.jump a n).sp = s.sp := rfl
@[simp] theorem jump_ime (a : Word) (n : Nat) : (s.jump a n).ime = s.ime := rfl
@[simp] theorem jump_ie (a : Word) (n : Nat) : (s.jump a n).ie = s.ie := rfl
@[simp] theorem jump_iflag (a : Word) (n : Nat) : (s.jump a n).iflag = s.iflag := rfl
@[simp] theorem jump_timer (a : Word) (n : Nat) : (s.jump a n).timer = s.timer := rfl
@[simp] theorem jump_lcd (a : Word) (n : Nat) : (s.jump a n).lcd = s.lcd := rfl
@[simp] theorem jump_dma (a : Word) (n : Nat) : (s.jump a n).dma = s.dma := rfl
@[simp] theorem jump_mem (a : Word) (n : Nat) : (s.jump a n).mem = s.mem := rfl
@[simp] theorem jump_bus (a : Word) (n : Nat) : (s.jump a n).bus = s.bus := rfl
@[simp] theorem jump_cycle (a : Word) (n : Nat) : (s.jump a n).cycle = s.cycle := rfl
@[simp] theorem jump_hostInputs (a : Word) (n : Nat) : (s.jump a n).hostInputs = s.hostInputs := rfl

/-! drop16 -/

@[simp] theorem drop16_regs : (s.drop16).regs = s.regs := rfl
@[simp] theorem drop16_pc : (s.drop16).pc = s.pc := rfl
@[simp] theorem drop16_ime : (s.drop16).ime = s.ime := rfl
@[simp] theorem drop16_ie : (s.drop16).ie = s.ie := rfl
@[simp] theorem drop16_iflag : (s.drop16).iflag = s.iflag := rfl
@[simp] theorem drop16_cpuNext : (s.drop16).cpuNext = s.cpuNext := rfl
@[simp] theorem drop16_timer : (s.drop16).timer = s.timer := rfl
@[simp] theorem drop16_lcd : (s.drop16).lcd = s.lcd := rfl
@[simp] theorem drop16_dma : (s.drop16).dma = s.dma := rfl
@[simp] theorem drop16_mem : (s.drop16).mem = s.mem := rfl
@[simp] theorem drop16_bus : (s.drop16).bus = s.bus := rfl
@[simp] theorem drop16_cycle : (s.drop16).cycle = s.cycle := rfl
@[simp] theorem drop16_hostInputs : (s.drop16).hostInputs = s.hostInputs := rfl

/-! request -/

@[simp] theorem request_regs (m : Byte) : (s.request m).regs = s.regs := rfl
@[simp] theorem request_pc (m : Byte) : (s.request m).pc = s.pc := rfl
@[simp] theorem request_sp (m : Byte) : (s.request m).sp = s.sp := rfl
@[simp] theorem request_ime (m : Byte) : (s.request m).ime = s.ime := rfl
@[simp] theorem request_ie (m : Byte) : (s.request m).ie = s.ie := rfl
@[simp] theorem request_cpuNext (m : Byte) : (s.request m).cpuNext = s.cpuNext := rfl
@[simp] theorem request_timer (m : Byte) : (s.request m).timer = s.timer := rfl
@[simp] theorem request_lcd (m : Byte) : (s.request m).lcd = s.lcd := rfl
@[simp] theorem request_dma (m : Byte) : (s.request m).dma = s.dma := rfl
@[simp] theorem request_mem (m : Byte) : (s.request m).mem = s.mem := rfl
@[simp] theorem request_bus (m : Byte) : (s.request m).bus = s.bus := rfl
@[simp] theorem request_cycle (m : Byte) : (s.request m).cycle = s.cycle := rfl
@[simp] theorem request_hostInputs (m : Byte) : (s.request m).hostInputs = s.hostInputs := rfl

/-! requestInterrupt -/

@[simp] theorem requestInterrupt_regs (k : Interrupt) : (s.requestInterrupt k).regs = s.regs := rfl
@[simp] theorem requestInterrupt_pc (k : Interrupt) : (s.requestInterrupt k).pc = s.pc := rfl
@[simp] theorem requestInterrupt_sp (k : Interrupt) : (s.requestInterrupt k).sp = s.sp := rfl
@[simp] theorem requestInterrupt_ime (k : Interrupt) : (s.requestInterrupt k).ime = s.ime := rfl
@[simp] theorem requestInterrupt_ie (k : Interrupt) : (s.requestInterrupt k).ie = s.ie := rfl
@[simp] theorem requestInterrupt_cpuNext (k : Interrupt) : (s.requestInterrupt k).cpuNext = s.cpuNext := rfl
@[simp] theorem requestInterrupt_timer (k : Interrupt) : (s.requestInterrupt k).timer = s.timer := rfl
@[simp] theorem requestInterrupt_lcd (k : Interrupt) : (s.requestInterrupt k).lcd = s.lcd := rfl
@[simp] theorem requestInterrupt_dma (k : Interrupt) : (s.requestInterrupt k).dma = s.dma := rfl
@[simp] theorem requestInterrupt_mem (k : Interrupt) : (s.requestInterrupt k).mem = s.mem := rfl
@[simp] theorem requestInterrupt_bus (k : Interrupt) : (s.requestInterrupt k).bus = s.bus := rfl
@[simp] theorem requestInterrupt_cycle (k : Interrupt) : (s.requestInterrupt k).cycle = s.cycle := rfl
@[simp] theorem requestInterrupt_hostInputs (k : Interrupt) : (s.requestInterrupt k).hostInputs = s.hostInputs := rfl

/-! withTimer -/

@[simp] theorem withTimer_regs (p : Timer × Byte) : (s.withTimer p).regs = s.regs := rfl
@[simp] theorem withTimer_pc (p : Timer × Byte) : (s.withTimer p).pc = s.pc := rfl
@[simp] theorem withTimer_sp (p : Timer × Byte) : (s.withTimer p).sp = s.sp := rfl
@[simp] theorem withTimer_ime (p : Timer × Byte) : (s.withTimer p).ime = s.ime := rfl
@[simp] theorem withTimer_ie (p : Timer × Byte) : (s.withTimer p).ie = s.ie := rfl
@[simp] theorem withTimer_cpuNext (p : Timer × Byte) : (s.withTimer p).cpuNext = s.cpuNext := rfl
@[simp] theorem withTimer_lcd (p : Timer × Byte) : (s.withTimer p).lcd = s.lcd := rfl
@[simp] theorem withTimer_dma (p : Timer × Byte) : (s.withTimer p).dma = s.dma := rfl
@[simp] theorem withTimer_mem (p : Timer × Byte) : (s.withTimer p).mem = s.mem := rfl
@[simp] theorem withTimer_bus (p : Timer × Byte) : (s.withTimer p).bus = s.bus := rfl
@[simp] theorem withTimer_cycle (p : Timer × Byte) : (s.withTimer p).cycle = s.cycle := rfl
@[simp] theorem withTimer_hostInputs (p : Timer × Byte) : (s.withTimer p).hostInputs = s.hostInputs := rfl

/-! withLcd -/

@[simp] theorem withLcd_regs (p : Lcd × Byte) : (s.withLcd p).regs = s.regs := rfl
@[simp] theorem withLcd_pc (p : Lcd × Byte) : (s.withLcd p).pc = s.pc := rfl
@[simp] theorem withLcd_sp (p : Lcd × Byte) : (s.withLcd p).sp = s.sp := rfl
@[simp] theorem withLcd_ime (p : Lcd × Byte) : (s.withLcd p).ime = s.ime := rfl
@[simp] theorem withLcd_ie (p : Lcd × Byte) : (s.withLcd p).ie = s.ie := rfl
@[simp] theorem withLcd_cpuNext (p : Lcd × Byte) : (s.withLcd p).cpuNext = s.cpuNext := rfl
@[simp] theorem withLcd_timer (p : Lcd × Byte) : (s.withLcd p).timer = s.timer := rfl
@[simp] theorem withLcd_dma (p : Lcd × Byte) : (s.withLcd p).dma = s.dma := rfl
@[simp] theorem withLcd_mem (p : Lcd × Byte) : (s.withLcd p).mem = s.mem := rfl
@[simp] theorem withLcd_bus (p : Lcd × Byte) : (s.withLcd p).bus = s.bus := rfl
@[simp] theorem withLcd_cycle (p : Lcd × Byte) : (s.withLcd p).cycle = s.cycle := rfl
@[simp] theorem withLcd_hostInputs (p : Lcd × Byte) : (s.withLcd p).hostInputs = s.hostInputs := rfl

/-! nextCycle -/

@[simp] theorem nextCycle_regs : (s.nextCycle).regs = s.regs := rfl
@[simp] theorem nextCycle_pc : (s.nextCycle).pc = s.pc := rfl
@[simp] theorem nextCycle_sp : (s.nextCycle).sp = s.sp := rfl
@[simp] theorem nextCycle_ime : (s.nextCycle).ime = s.ime := rfl
@[simp] theorem nextCycle_ie : (s.nextCycle).ie = s.ie := rfl
@[simp] theorem nextCycle_iflag : (s.nextCycle).iflag = s.iflag := rfl
@[simp] theorem nextCycle_cpuNext : (s.nextCycle).cpuNext = s.cpuNext := rfl
@[simp] theorem nextCycle_timer : (s.nextCycle).timer = s.timer := rfl
@[simp] theorem nextCycle_lcd : (s.nextCycle).lcd = s.lcd := rfl
@[simp] theorem nextCycle_dma : (s.nextCycle).dma = s.dma := rfl
@[simp] theorem nextCycle_mem : (s.nextCycle).mem = s.mem := rfl
@[simp] theorem nextCycle_bus : (s.nextCycle).bus = s.bus := rfl
@[simp] theorem nextCycle_hostInputs : (s.nextCycle).hostInputs = s.hostInputs := rfl

/-! What the updates write -/

@[simp] theorem setReg_f (r : Reg8) (v : Byte) : (s.setReg r v).regs.f = s.regs.f := by cases r <;> rfl
@[simp] theorem setReg_reg (r q : Reg8) (v : Byte) : (s.setReg r v).reg q = if q = r then v else s.reg q := by
  cases r <;> cases q <;> rfl
@[simp] theorem setF_f (v : Byte) : (s.setF v).regs.f = v &&& 0xF0#8 := rfl
@[simp] theorem setF_reg (v : Byte) (q : Reg8) : (s.setF v).reg q = s.reg q := by cases q <;> rfl
@[simp] theorem setFlags_reg (z n h c : Bool) (q : Reg8) : (s.setFlags z n h c).reg q = s.reg q := by
  cases q <;> rfl
@[simp] theorem setFlags_f (z n h c : Bool) : (s.setFlags z n h c).regs.f = flagByte z n h c := by
  cases z <;> cases n <;> cases h <;> cases c <;> rfl
@[simp] theorem setSP_sp (v : Word) : (s.setSP v).sp = v := rfl
@[simp] theorem setSP_reg (v : Word) (q : Reg8) : (s.setSP v).reg q = s.reg q := by cases q <;> rfl
@[simp] theorem charge_cpuNext (n : Nat) : (s.charge n).cpuNext = .activeAt (s.cycle + n) := rfl
@[simp] theorem charge_reg (n : Nat) (q : Reg8) : (s.charge n).reg q = s.reg q := by cases q <;> rfl
@[simp] theorem finish_pc (len n : Nat) : (s.finish len n).pc = s.pc + BitVec.ofNat 16 len := rfl
@[simp] theorem finish_cpuNext (len n : Nat) : (s.finish len n).cpuNext = .activeAt (s.cycle + n) := rfl
@[simp] theorem finish_reg (len n : Nat) (q : Reg8) : (s.finish len n).reg q = s.reg q := by cases q <;> rfl
@[simp] theorem jump_pc (a : Word) (n : Nat) : (s.jump a n).pc = a := rfl
@[simp] theorem jump_cpuNext (a : Word) (n : Nat) : (s.jump a n).cpuNext = .activeAt (s.cycle + n) := rfl
@[simp] theorem jump_reg (a : Word) (n : Nat) (q : Reg8) : (s.jump a n).reg q = s.reg q := by cases q <;> rfl
@[simp] theorem drop16_sp : s.drop16.sp = s.sp + 2 := rfl
@[simp] theorem request_iflag (m : Byte) : (s.request m).iflag = s.iflag ||| m := rfl
@[simp] theorem requestInterrupt_iflag (k : Interrupt) : (s.requestInterrupt k).iflag = s.iflag ||| k.bit := rfl
@[simp] theorem withTimer_timer (p : Timer × Byte) : (s.withTimer p).timer = p.1 := rfl
@[simp] theorem withTimer_iflag (p : Timer × Byte) : (s.withTimer p).iflag = s.iflag ||| p.2 := rfl
@[simp] theorem withLcd_lcd (p : Lcd × Byte) : (s.withLcd p).lcd = p.1 := rfl
@[simp] theorem withLcd_iflag (p : Lcd × Byte) : (s.withLcd p).iflag = s.iflag ||| p.2 := rfl
@[simp] theorem nextCycle_cycle : s.nextCycle.cycle = s.cycle + 1 := rfl

end State

end Sys2Proof.Machine
end

