-- ==== Sys2Proof/Laws/Bus.lean ====
section
/-! SUPPORT. The bus: who owns an address, what one component's write and the whole broadcast may change, reading back a
plain byte (20_memory.md R62 to R73). -/

namespace Sys2Proof.Machine

open Sys2Proof

/-! ## Fields that no write of the bus touches -/

namespace State

@[simp] theorem componentWrite_regs (s : State) (d : Component) (a : Word) (v : Byte) :
    (s.componentWrite d a v).regs = s.regs := by
  cases d <;> simp only [componentWrite] <;> (repeat' split) <;> rfl
@[simp] theorem componentWrite_pc (s : State) (d : Component) (a : Word) (v : Byte) :
    (s.componentWrite d a v).pc = s.pc := by
  cases d <;> simp only [componentWrite] <;> (repeat' split) <;> rfl
@[simp] theorem componentWrite_sp (s : State) (d : Component) (a : Word) (v : Byte) :
    (s.componentWrite d a v).sp = s.sp := by
  cases d <;> simp only [componentWrite] <;> (repeat' split) <;> rfl
@[simp] theorem componentWrite_ime (s : State) (d : Component) (a : Word) (v : Byte) :
    (s.componentWrite d a v).ime = s.ime := by
  cases d <;> simp only [componentWrite] <;> (repeat' split) <;> rfl
@[simp] theorem componentWrite_cpuNext (s : State) (d : Component) (a : Word) (v : Byte) :
    (s.componentWrite d a v).cpuNext = s.cpuNext := by
  cases d <;> simp only [componentWrite] <;> (repeat' split) <;> rfl
@[simp] theorem componentWrite_bus (s : State) (d : Component) (a : Word) (v : Byte) :
    (s.componentWrite d a v).bus = s.bus := by
  cases d <;> simp only [componentWrite] <;> (repeat' split) <;> rfl
@[simp] theorem componentWrite_cycle (s : State) (d : Component) (a : Word) (v : Byte) :
    (s.componentWrite d a v).cycle = s.cycle := by
  cases d <;> simp only [componentWrite] <;> (repeat' split) <;> rfl
@[simp] theorem componentWrite_hostInputs (s : State) (d : Component) (a : Word) (v : Byte) :
    (s.componentWrite d a v).hostInputs = s.hostInputs := by
  cases d <;> simp only [componentWrite] <;> (repeat' split) <;> rfl

/-- A property kept by one component's write is kept by the broadcast. -/
theorem foldl_componentWrite_induct {P : State → Prop} {ds : List Component} {a : Word} {v : Byte}
    (step : ∀ t, ∀ d ∈ ds, P t → P (t.componentWrite d a v)) (s : State) (h : P s) :
    P (ds.foldl (fun t d => t.componentWrite d a v) s) := by
  induction ds generalizing s with
  | nil => exact h
  | cons d ds ih =>
    exact ih (fun t e he => step t e (by simp [he])) _ (step s d (by simp) h)

theorem busWrite_induct {P : State → Prop} {a : Word} {v : Byte} (s : State)
    (step : ∀ t, ∀ d ∈ s.bus, P t → P (t.componentWrite d a v)) (h : P s) : P (s.busWrite a v) :=
  foldl_componentWrite_induct step s h

@[simp] theorem busWrite_regs (s : State) (a : Word) (v : Byte) : (s.busWrite a v).regs = s.regs :=
  busWrite_induct (P := fun t => t.regs = s.regs) s (fun t d _ h => by simp [h]) rfl
@[simp] theorem busWrite_pc (s : State) (a : Word) (v : Byte) : (s.busWrite a v).pc = s.pc :=
  busWrite_induct (P := fun t => t.pc = s.pc) s (fun t d _ h => by simp [h]) rfl
@[simp] theorem busWrite_sp (s : State) (a : Word) (v : Byte) : (s.busWrite a v).sp = s.sp :=
  busWrite_induct (P := fun t => t.sp = s.sp) s (fun t d _ h => by simp [h]) rfl
@[simp] theorem busWrite_ime (s : State) (a : Word) (v : Byte) : (s.busWrite a v).ime = s.ime :=
  busWrite_induct (P := fun t => t.ime = s.ime) s (fun t d _ h => by simp [h]) rfl
@[simp] theorem busWrite_cpuNext (s : State) (a : Word) (v : Byte) : (s.busWrite a v).cpuNext = s.cpuNext :=
  busWrite_induct (P := fun t => t.cpuNext = s.cpuNext) s (fun t d _ h => by simp [h]) rfl
@[simp] theorem busWrite_bus (s : State) (a : Word) (v : Byte) : (s.busWrite a v).bus = s.bus :=
  busWrite_induct (P := fun t => t.bus = s.bus) s (fun t d _ h => by simp [h]) rfl
@[simp] theorem busWrite_cycle (s : State) (a : Word) (v : Byte) : (s.busWrite a v).cycle = s.cycle :=
  busWrite_induct (P := fun t => t.cycle = s.cycle) s (fun t d _ h => by simp [h]) rfl
@[simp] theorem busWrite_hostInputs (s : State) (a : Word) (v : Byte) :
    (s.busWrite a v).hostInputs = s.hostInputs :=
  busWrite_induct (P := fun t => t.hostInputs = s.hostInputs) s (fun t d _ h => by simp [h]) rfl
@[simp] theorem busWrite_reg (s : State) (a : Word) (v : Byte) (q : Reg8) : (s.busWrite a v).reg q = s.reg q := by
  cases q <;> simp [reg]

/-! ## Reads see only the devices and the stored bytes -/

/-- Two states that agree on what a read can see. -/
structure SameReads (s t : State) : Prop where
  ie : t.ie = s.ie
  iflag : t.iflag = s.iflag
  timer : t.timer = s.timer
  lcd : t.lcd = s.lcd
  mem : t.mem = s.mem
  bus : t.bus = s.bus

theorem read_congr {s t : State} (h : SameReads s t) (d : Component) (a : Word) : d.read t a = d.read s a := by
  cases d <;> simp [Component.read, h.ie, h.iflag, h.timer, h.lcd, h.mem]

theorem busRead_congr {s t : State} (h : SameReads s t) (a : Word) : t.busRead a = s.busRead a := by
  simp [busRead, h.bus, read_congr h]

@[simp] theorem setReg_busRead (s : State) (r : Reg8) (v : Byte) (a : Word) :
    (s.setReg r v).busRead a = s.busRead a := busRead_congr (by constructor <;> simp) a
@[simp] theorem setF_busRead (s : State) (v : Byte) (a : Word) : (s.setF v).busRead a = s.busRead a := rfl
@[simp] theorem setFlags_busRead (s : State) (z n h c : Bool) (a : Word) :
    (s.setFlags z n h c).busRead a = s.busRead a := rfl
@[simp] theorem setSP_busRead (s : State) (v a : Word) : (s.setSP v).busRead a = s.busRead a := rfl
@[simp] theorem setHL_busRead (s : State) (v a : Word) : (s.setHL v).busRead a = s.busRead a := rfl
@[simp] theorem setPair_busRead (s : State) (p : Pair) (v a : Word) : (s.setPair p v).busRead a = s.busRead a :=
  busRead_congr (by constructor <;> simp) a
@[simp] theorem setStackPair_busRead (s : State) (q : StackPair) (v a : Word) :
    (s.setStackPair q v).busRead a = s.busRead a := busRead_congr (by constructor <;> simp) a
@[simp] theorem charge_busRead (s : State) (n : Nat) (a : Word) : (s.charge n).busRead a = s.busRead a := rfl
@[simp] theorem finish_busRead (s : State) (len n : Nat) (a : Word) : (s.finish len n).busRead a = s.busRead a := rfl
@[simp] theorem jump_busRead (s : State) (t : Word) (n : Nat) (a : Word) : (s.jump t n).busRead a = s.busRead a := rfl
@[simp] theorem drop16_busRead (s : State) (a : Word) : s.drop16.busRead a = s.busRead a := rfl
@[simp] theorem nextCycle_busRead (s : State) (a : Word) : s.nextCycle.busRead a = s.busRead a := rfl

end State

/-! ## Ownership -/

namespace Component

theorem ne_of_owns {d : Component} {a c : Word} (ha : d.owns a = false) (hc : d.owns c = true) : a ≠ c := by
  rintro rfl
  rw [ha] at hc
  cases hc

/-- An address in a range, as the range's start and an offset. -/
theorem word_eq_of_range {a : Word} {lo n : Nat} (h1 : lo ≤ a.toNat) (h2 : a.toNat ≤ lo + n) :
    ∃ k, k ≤ n ∧ a = BitVec.ofNat 16 (lo + k) :=
  ⟨a.toNat - lo, by omega, by rw [Nat.add_sub_cancel' h1, BitVec.ofNat_toNat, BitVec.setWidth_eq]⟩

end Component

/-- The address of a register of the timer (10_state.md R36). -/
def TimerReg.addr : TimerReg → Word
  | .div => Config.regDiv
  | .tima => Config.regTima
  | .tma => Config.regTma
  | .tac => Config.regTac

/-- The address of a register of the LCD controller (10_state.md R36). -/
def LcdReg.addr : LcdReg → Word
  | .lcdc => Config.regLcdc
  | .stat => Config.regStat
  | .scy => Config.regScy
  | .scx => Config.regScx
  | .ly => Config.regLy
  | .lyc => Config.regLyc
  | .dma => Config.regDma
  | .bgp => Config.regBgp
  | .obp0 => Config.regObp0
  | .obp1 => Config.regObp1
  | .wy => Config.regWy
  | .wx => Config.regWx

@[simp] theorem TimerReg.at_addr (r : TimerReg) : TimerReg.at? r.addr = some r := by cases r <;> rfl
@[simp] theorem LcdReg.at_addr (r : LcdReg) : LcdReg.at? r.addr = some r := by cases r <;> rfl

theorem TimerReg.at_of_owns {a : Word} (h : Component.timer.owns a = true) : ∃ r : TimerReg, a = r.addr := by
  simp only [Component.owns, Bool.and_eq_true, decide_eq_true_eq] at h
  obtain ⟨k, hk, rfl⟩ := Component.word_eq_of_range (n := 3) h.1 h.2
  interval_cases k
  exacts [⟨.div, rfl⟩, ⟨.tima, rfl⟩, ⟨.tma, rfl⟩, ⟨.tac, rfl⟩]

theorem LcdReg.at_of_owns {a : Word} (h : Component.lcd.owns a = true) : ∃ r : LcdReg, a = r.addr := by
  simp only [Component.owns, Bool.and_eq_true, decide_eq_true_eq] at h
  obtain ⟨k, hk, rfl⟩ := Component.word_eq_of_range (n := 11) h.1 h.2
  interval_cases k
  exacts [⟨.lcdc, rfl⟩, ⟨.stat, rfl⟩, ⟨.scy, rfl⟩, ⟨.scx, rfl⟩, ⟨.ly, rfl⟩, ⟨.lyc, rfl⟩, ⟨.dma, rfl⟩, ⟨.bgp, rfl⟩,
    ⟨.obp0, rfl⟩, ⟨.obp1, rfl⟩, ⟨.wy, rfl⟩, ⟨.wx, rfl⟩]

theorem TimerReg.at_eq_none {a : Word} (h : Component.timer.owns a = false) : TimerReg.at? a = none := by
  simp only [Component.owns, Bool.and_eq_false_iff, decide_eq_false_iff_not] at h
  rw [TimerReg.at?]
  split <;> first | rfl | (exfalso; bv_omega)

theorem LcdReg.at_eq_none {a : Word} (h : Component.lcd.owns a = false) : LcdReg.at? a = none := by
  simp only [Component.owns, Bool.and_eq_false_iff, decide_eq_false_iff_not] at h
  rw [LcdReg.at?]
  split <;> first | rfl | (exfalso; bv_omega)

namespace Component

theorem owns_timer_addr (r : TimerReg) : Component.timer.owns r.addr = true := by cases r <;> rfl
theorem owns_lcd_addr (r : LcdReg) : Component.lcd.owns r.addr = true := by cases r <;> rfl

/-- A component answers exactly the addresses it owns (20_memory.md R73). -/
theorem isSome_read (d : Component) (s : State) (a : Word) : (d.read s a).isSome = d.owns a := by
  cases d
  case cpu =>
    simp only [read, owns]
    split_ifs <;> simp_all
  case timer =>
    cases h : Component.timer.owns a
    · simp [read, Timer.read, TimerReg.at_eq_none h]
    · obtain ⟨r, rfl⟩ := TimerReg.at_of_owns h
      simp [read, Timer.read]
  case lcd =>
    cases h : Component.lcd.owns a
    · simp [read, Lcd.read, LcdReg.at_eq_none h]
    · obtain ⟨r, rfl⟩ := LcdReg.at_of_owns h
      simp [read, Lcd.read]
  all_goals simp [read, owns]

theorem read_eq_none {d : Component} {a : Word} (h : d.owns a = false) (s : State) : d.read s a = none := by
  rw [← isSome_read d s a] at h
  simpa using h

end Component

theorem State.request_zero (s : State) : s.request 0#8 = s := by simp [State.request]

theorem State.withTimer_self (s : State) : s.withTimer (s.timer, 0#8) = s := State.request_zero s

theorem State.withLcd_self (s : State) : s.withLcd (s.lcd, 0#8) = s := State.request_zero s

theorem Timer.write_of_not_owns {a : Word} (h : Component.timer.owns a = false) (t : Timer) (v : Byte) :
    t.write a v = (t, 0#8) := by simp [Timer.write, TimerReg.at_eq_none h]

theorem Lcd.write_of_not_owns {a : Word} (h : Component.lcd.owns a = false) (l : Lcd) (v : Byte) :
    l.write a v = (l, 0#8) := by simp [Lcd.write, LcdReg.at_eq_none h]

@[simp] theorem Timer.write_addr (r : TimerReg) (t : Timer) (v : Byte) : t.write r.addr v = t.writeReg r v := by
  simp [Timer.write]
@[simp] theorem Lcd.write_addr (r : LcdReg) (l : Lcd) (v : Byte) : l.write r.addr v = l.writeReg r v := by
  simp [Lcd.write]
@[simp] theorem Timer.read_addr (r : TimerReg) (t : Timer) : t.read r.addr = some (t.readReg r) := by simp [Timer.read]
@[simp] theorem Lcd.read_addr (r : LcdReg) (l : Lcd) : l.read r.addr = some (l.readReg r) := by simp [Lcd.read]

theorem owns_lcd_dma : Component.lcd.owns Config.regDma = true := by decide

/-- "components that do not own the address are expected to ignore the call" (20_memory.md R62). -/
theorem State.componentWrite_of_not_owns {d : Component} {a : Word} (h : d.owns a = false) (s : State) (v : Byte) :
    s.componentWrite d a v = s := by
  cases d
  case cpu =>
    simp only [Component.owns, Bool.or_eq_false_iff, beq_eq_false_iff_ne] at h
    simp [componentWrite, h.1, h.2]
  case timer => simp [componentWrite, Timer.write_of_not_owns h, withTimer_self]
  case lcd =>
    have : a ≠ Config.regDma := by rintro rfl; rw [owns_lcd_dma] at h; cases h
    simp [componentWrite, Lcd.write_of_not_owns h, withLcd_self, this]
  case rom => rfl
  case overlay => rfl
  all_goals
    simp only [Component.owns, Option.isSome_eq_false_iff, Option.isNone_iff_eq_none] at h
    simp [componentWrite, h]

/-! ## What one component's write may change -/

namespace State

theorem componentWrite_storage {d : Component} (hd : d.keepsWrites = true) (s : State) (a : Word) (v : Byte) :
    s.componentWrite d a v = s ∨ ∃ k, d.cell? a = some k ∧ s.componentWrite d a v = { s with mem := s.mem.write k v } := by
  cases d <;> simp only [Component.keepsWrites, Bool.false_eq_true] at hd
  all_goals
    simp only [componentWrite]
    split
    · exact .inr ⟨_, by assumption, rfl⟩
    · exact .inl rfl

end State

/-- A write of one register leaves the others' read values, but for those it affects. -/
theorem Timer.readReg_writeReg {r q : TimerReg} (hq : q ≠ r) (h : registerAffects r.addr q.addr = false) (t : Timer)
    (v : Byte) : (t.writeReg r v).1.readReg q = t.readReg q := by
  cases r <;> cases q <;> first | rfl | exact absurd rfl hq | (exact absurd h (by decide)) |
    (simp only [Timer.writeReg, Timer.countEdge, Timer.incTima]; split_ifs <;> rfl)

theorem Timer.write_request {r : TimerReg} (h : registerAffects r.addr Config.regIf = false) (t : Timer) (v : Byte) :
    (t.writeReg r v).2 = 0#8 := by
  cases r <;> first | rfl | exact absurd h (by decide)

theorem Lcd.readReg_writeReg {r q : LcdReg} (hq : q ≠ r) (h : registerAffects r.addr q.addr = false) (l : Lcd)
    (v : Byte) : (l.writeReg r v).1.readReg q = l.readReg q := by
  cases r <;> cases q <;> first | rfl | exact absurd rfl hq | (exact absurd h (by decide)) |
    (simp only [Lcd.writeReg, Lcd.writeLcdc, Lcd.powerOff, Lcd.setLy, Lcd.compareLy, Lcd.recomputeWindow];
      split_ifs <;> rfl)

theorem Lcd.write_request {r : LcdReg} (h : registerAffects r.addr Config.regIf = false) (l : Lcd) (v : Byte) :
    (l.writeReg r v).2 = 0#8 := by
  cases r <;> first | rfl | exact absurd h (by decide)

theorem registerAffects_timer_if {r : TimerReg} {b : Word} (hb : b = Config.regIf)
    (h : registerAffects r.addr b = false) : registerAffects r.addr Config.regIf = false := hb ▸ h

/-! ## One component's write, away from what it affects -/

namespace State

theorem storageAffects_eq_false {bus : List Component} {a b : Word} (h : storageAffects bus a b = false)
    {d e : Component} (hd : d ∈ bus) (he : e ∈ bus) (hk : d.keepsWrites = true) {k k' : Nat} (ha : d.cell? a = some k)
    (hb : e.cell? b = some k') : k' ≠ k := by
  rintro rfl
  have : storageAffects bus a b = true := by
    simp only [storageAffects, List.any_eq_true]
    exact ⟨d, hd, by rw [hk, Bool.true_and, List.any_eq_true]; exact ⟨e, he, by simp [ha, hb]⟩⟩
  rw [this] at h
  cases h

/-- A component reads the same byte after another component's write that does not affect it. -/
theorem read_componentWrite {bus : List Component} {a b : Word} (h : affects bus a b = false) {d e : Component}
    (hd : d ∈ bus) (he : e ∈ bus) (s : State) (v : Byte) : e.read (s.componentWrite d a v) b = e.read s b := by
  simp only [affects, Bool.or_eq_false_iff, beq_eq_false_iff_ne] at h
  obtain ⟨⟨hab, hr⟩, hs⟩ := h
  cases hown : d.owns a
  · rw [componentWrite_of_not_owns hown]
  · cases hk : d.keepsWrites
    · cases d <;> simp only [Component.keepsWrites, reduceCtorEq] at hk
      case cpu =>
        simp only [componentWrite]
        split_ifs with h1 h2
        · cases e <;> first | rfl | simp only [Component.read]
          simp [← h1, Ne.symm hab]
        · cases e <;> first | rfl | simp only [Component.read]
          simp [← h2, Ne.symm hab]
        · rfl
      case timer =>
        obtain ⟨r, rfl⟩ := TimerReg.at_of_owns hown
        simp only [componentWrite, Timer.write_addr]
        cases e <;> first | rfl | simp only [Component.read]
        · by_cases hb : b = Config.regIf
          · subst hb
            simp [Timer.write_request hr]
          · simp [hb]
        · cases ho : Component.timer.owns b
          · simp [Timer.read, TimerReg.at_eq_none ho]
          · obtain ⟨q, rfl⟩ := TimerReg.at_of_owns ho
            simp [Timer.readReg_writeReg (fun e => hab (by rw [e])) hr]
      case lcd =>
        obtain ⟨r, rfl⟩ := LcdReg.at_of_owns hown
        have key : e.read (s.withLcd (s.lcd.write r.addr v)) b = e.read s b := by
          simp only [Lcd.write_addr]
          cases e <;> first | rfl | simp only [Component.read]
          · by_cases hb : b = Config.regIf
            · subst hb
              simp [Lcd.write_request hr]
            · simp [hb]
          · cases ho : Component.lcd.owns b
            · simp [Lcd.read, LcdReg.at_eq_none ho]
            · obtain ⟨q, rfl⟩ := LcdReg.at_of_owns ho
              simp [Lcd.readReg_writeReg (fun e => hab (by rw [e])) hr]
        simp only [componentWrite]
        split_ifs
        · rw [← key]; cases e <;> rfl
        · exact key
      case rom => rfl
      case overlay => rfl
    · rcases componentWrite_storage hk s a v with h' | ⟨k, hc, h'⟩
      · rw [h']
      · rw [h']
        have hread : ∀ k', e.cell? b = some k' → (s.mem.write k v).read k' = s.mem.read k' := fun k' hb =>
          Memory.read_write_other _ _ (storageAffects_eq_false hs hd he hk hc hb)
        cases e <;> first | rfl | (simp only [Component.read]; exact Option.map_congr fun k' hb => hread k' hb)

theorem findSome_congr {α β : Type} {l : List α} {f g : α → Option β} (h : ∀ x ∈ l, f x = g x) :
    l.findSome? f = l.findSome? g := by
  induction l with
  | nil => rfl
  | cons x l ih => rw [List.findSome?_cons, List.findSome?_cons, h x (by simp), ih fun y hy => h y (by simp [hy])]

/-- A byte that the store does not affect reads as before. -/
theorem busRead_busWrite_other {s : State} {a b : Word} (h : affects s.bus a b = false) (v : Byte) :
    (s.busWrite a v).busRead b = s.busRead b := by
  have key : ∀ e ∈ s.bus, e.read (s.busWrite a v) b = e.read s b := fun e he =>
    busWrite_induct (P := fun t => e.read t b = e.read s b) s
      (fun t d hd ht => by rw [read_componentWrite h hd he, ht]) rfl
  simp only [busRead, busWrite_bus]
  rw [findSome_congr key]

/-- A store away from every core register leaves them all. -/
theorem componentWrite_core {a : Word} (h : coreRegister a = false) (s : State) (d : Component) (v : Byte) :
    (s.componentWrite d a v).ie = s.ie ∧ (s.componentWrite d a v).iflag = s.iflag ∧
      (s.componentWrite d a v).timer = s.timer ∧ (s.componentWrite d a v).lcd = s.lcd ∧
      (s.componentWrite d a v).dma = s.dma := by
  simp only [coreRegister, Bool.or_eq_false_iff] at h
  obtain ⟨⟨h1, h2⟩, h3⟩ := h
  cases hk : d.keepsWrites
  · cases d <;> simp only [Component.keepsWrites, reduceCtorEq] at hk
    · rw [componentWrite_of_not_owns h1]; simp
    · rw [componentWrite_of_not_owns h2]; simp
    · rw [componentWrite_of_not_owns h3]; simp
    · simp [componentWrite]
    · simp [componentWrite]
  · rcases componentWrite_storage hk s a v with h' | ⟨k, -, h'⟩ <;> rw [h'] <;> simp

theorem busWrite_core {s : State} {a : Word} (h : coreRegister a = false) (v : Byte) :
    (s.busWrite a v).ie = s.ie ∧ (s.busWrite a v).iflag = s.iflag ∧ (s.busWrite a v).timer = s.timer ∧
      (s.busWrite a v).lcd = s.lcd ∧ (s.busWrite a v).dma = s.dma :=
  busWrite_induct
    (P := fun t => t.ie = s.ie ∧ t.iflag = s.iflag ∧ t.timer = s.timer ∧ t.lcd = s.lcd ∧ t.dma = s.dma) s
    (fun t d _ ht => by
      obtain ⟨h1, h2, h3, h4, h5⟩ := componentWrite_core h t d v
      rw [h1, h2, h3, h4, h5]
      exact ht) ⟨rfl, rfl, rfl, rfl, rfl⟩

/-- One store, as the frame of an instruction says it. -/
theorem storesOnly_busWrite (s : State) (a : Word) (v : Byte) : StoresOnly s (s.busWrite a v) [a] where
  bytes b h := busRead_busWrite_other (h a (by simp)) v
  registers h := busWrite_core (h a (by simp)) v
  ime := by simp
  bus := by simp
  cycle := by simp
  hostInputs := by simp

/-- Stores one after another. -/
theorem storesOnly_trans {s t u : State} {as bs : List Word} (h1 : StoresOnly s t as) (h2 : StoresOnly t u bs) :
    StoresOnly s u (as ++ bs) where
  bytes b h := by
    rw [h2.bytes b fun a ha => by rw [h1.bus]; exact h a (by simp [ha]), h1.bytes b fun a ha => h a (by simp [ha])]
  registers h := by
    obtain ⟨a1, a2, a3, a4, a5⟩ := h1.registers fun a ha => h a (by simp [ha])
    obtain ⟨b1, b2, b3, b4, b5⟩ := h2.registers fun a ha => h a (by simp [ha])
    exact ⟨b1.trans a1, b2.trans a2, b3.trans a3, b4.trans a4, b5.trans a5⟩
  ime := h2.ime.trans h1.ime
  bus := h2.bus.trans h1.bus
  cycle := h2.cycle.trans h1.cycle
  hostInputs := h2.hostInputs.trans h1.hostInputs

/-! ## Reading back a plain byte (20_memory.md R67) -/

theorem componentWrite_mem (s : State) (d : Component) (a : Word) (v : Byte) :
    (s.componentWrite d a v).mem = s.mem ∨ ∃ j, (s.componentWrite d a v).mem = s.mem.write j v := by
  cases hk : d.keepsWrites
  · cases d <;> simp only [Component.keepsWrites, reduceCtorEq] at hk <;> left <;> simp only [componentWrite] <;>
      (repeat' split) <;> rfl
  · rcases componentWrite_storage hk s a v with h' | ⟨k, -, h'⟩ <;> rw [h']
    · exact .inl rfl
    · exact .inr ⟨k, rfl⟩

theorem componentWrite_keeps_value (s : State) (d : Component) {a : Word} {v : Byte} {k : Nat}
    (h : s.mem.read k = v) : (s.componentWrite d a v).mem.read k = v := by
  rcases componentWrite_mem s d a v with h' | ⟨j, h'⟩ <;> rw [h']
  · exact h
  · rw [Memory.read_write]; split_ifs <;> simp_all

theorem cell_of_plainByte {bus : List Component} {a : Word} (h : plainByte bus a = true) :
    ∃ pre d post k, bus = pre ++ d :: post ∧ (∀ e ∈ pre, e.owns a = false) ∧ d.keepsWrites = true ∧
      d.cell? a = some k := by
  rw [plainByte] at h
  split at h
  next d hd =>
    obtain ⟨ho, pre, post, rfl, hpre⟩ := List.find?_eq_some_iff_append.mp hd
    have hk : ∃ k, d.cell? a = some k := by
      cases d <;> simp only [Component.keepsWrites, Bool.false_eq_true] at h <;>
        simpa [Component.owns, Option.isSome_iff_exists] using ho
    obtain ⟨k, hk⟩ := hk
    exact ⟨pre, d, post, k, rfl, fun e he => by simpa using hpre e he, h, hk⟩
  next => cases h

theorem read_of_keepsWrites {d : Component} {a : Word} {k : Nat} (h : d.keepsWrites = true) (hk : d.cell? a = some k)
    (s : State) : d.read s a = some (s.mem.read k) := by
  cases d <;> simp only [Component.keepsWrites, Bool.false_eq_true] at h <;> simp [Component.read, hk]

/-- A read of a plain byte reads one cell. -/
theorem busRead_of_first {s : State} {a : Word} {pre post : List Component} {d : Component} {k : Nat}
    (hbus : s.bus = pre ++ d :: post) (hpre : ∀ e ∈ pre, e.owns a = false) (hd : d.keepsWrites = true)
    (hk : d.cell? a = some k) : s.busRead a = s.mem.read k := by
  have h0 : pre.findSome? (fun e => e.read s a) = none :=
    List.findSome?_eq_none_iff.mpr fun e he => Component.read_eq_none (hpre e he) s
  rw [busRead, hbus, List.findSome?_append, h0, List.findSome?_cons, read_of_keepsWrites hd hk]
  rfl

/-- "`Bus.read` after `Bus.write(addr, x)` to a component owning `addr` returns `x`" (20_memory.md R67). -/
theorem busRead_busWrite_same {s : State} {a : Word} (h : plainByte s.bus a = true) (v : Byte) :
    (s.busWrite a v).busRead a = v := by
  obtain ⟨pre, d, post, k, hbus, hpre, hd, hk⟩ := cell_of_plainByte h
  rw [busRead_of_first (by rw [busWrite_bus, hbus]) hpre hd hk, busWrite, hbus, List.foldl_append, List.foldl_cons]
  refine foldl_componentWrite_induct (P := fun t => t.mem.read k = v) (fun t e _ ht => componentWrite_keeps_value t e ht)
    _ ?_
  generalize List.foldl _ s pre = t
  cases d <;> simp only [Component.keepsWrites, Bool.false_eq_true] at hd <;> simp [componentWrite, hk]

theorem wf_componentWrite {s : State} (h : s.mem.wf) (d : Component) (a : Word) (v : Byte) :
    (s.componentWrite d a v).mem.wf := by
  rcases componentWrite_mem s d a v with h' | ⟨j, h'⟩ <;> rw [h']
  · exact h
  · exact Memory.wf_write h j v

/-- A store keeps the canonical form. -/
theorem wf_busWrite {s : State} (h : s.mem.wf) (a : Word) (v : Byte) : (s.busWrite a v).mem.wf :=
  busWrite_induct (P := fun t => t.mem.wf) s (fun _ d _ ht => wf_componentWrite ht d a v) h

end State

end Sys2Proof.Machine
end

