-- ==== Sys2Proof/Laws/Words.lean ====
section
/-! SUPPORT. Words and bytes as numbers: byte order, pairs, addresses of the high page, and the flag byte. -/

namespace Sys2Proof

@[simp] theorem loByte_toNat (v : Word) : (loByte v).toNat = v.toNat % 256 := by simp [loByte]
@[simp] theorem hiByte_toNat (v : Word) : (hiByte v).toNat = v.toNat / 256 := by
  have := v.isLt
  simp [hiByte, Nat.shiftRight_eq_div_pow]
  omega

@[simp] theorem wordOf_toNat (hi lo : Byte) : (wordOf hi lo).toNat = 256 * hi.toNat + lo.toNat := by
  have := lo.isLt
  simp only [wordOf, BitVec.toNat_append]
  rw [← Nat.shiftLeft_add_eq_or_of_lt this, Nat.shiftLeft_eq]
  omega

@[simp] theorem hiByte_wordOf (hi lo : Byte) : hiByte (wordOf hi lo) = hi := by
  have := hi.isLt; have := lo.isLt
  apply BitVec.eq_of_toNat_eq; simp; omega
@[simp] theorem loByte_wordOf (hi lo : Byte) : loByte (wordOf hi lo) = lo := by
  have := hi.isLt; have := lo.isLt
  apply BitVec.eq_of_toNat_eq; simp; omega
@[simp] theorem wordOf_hiByte_loByte (v : Word) : wordOf (hiByte v) (loByte v) = v := by
  apply BitVec.eq_of_toNat_eq; simp; omega

theorem loByte_eq_ofNat (v : Word) : loByte v = BitVec.ofNat 8 (v.toNat % 256) := by
  apply BitVec.eq_of_toNat_eq; simp
theorem hiByte_eq_ofNat (v : Word) : hiByte v = BitVec.ofNat 8 (v.toNat / 256) := by
  have := v.isLt
  apply BitVec.eq_of_toNat_eq; simp; omega

namespace Machine

theorem highPage_eq_ofNat (n : Byte) : highPage n = BitVec.ofNat 16 (0xFF00 + n.toNat) := by
  have := n.isLt
  apply BitVec.eq_of_toNat_eq; simp [highPage]; omega

theorem sext16_toNat (e : Byte) : (sext16 e).toNat = if e.toNat < 128 then e.toNat else e.toNat + 0xFF00 := by
  revert e; decide +kernel

theorem add_sext16_toNat (w : Word) (e : Byte) : (w + sext16 e).toNat = signedSum w e := by
  simp [BitVec.toNat_add, sext16_toNat, signedSum]

theorem flagByte_toNat (z n h c : Bool) : (flagByte z n h c).toNat = flagsNat z n h c := by
  cases z <;> cases n <;> cases h <;> cases c <;> rfl

@[simp] theorem flagZ_flagByte (z n h c : Bool) : flagZ (flagByte z n h c) = z := by
  cases z <;> cases n <;> cases h <;> cases c <;> rfl
@[simp] theorem flagN_flagByte (z n h c : Bool) : flagN (flagByte z n h c) = n := by
  cases z <;> cases n <;> cases h <;> cases c <;> rfl
@[simp] theorem flagH_flagByte (z n h c : Bool) : flagH (flagByte z n h c) = h := by
  cases z <;> cases n <;> cases h <;> cases c <;> rfl
@[simp] theorem flagC_flagByte (z n h c : Bool) : flagC (flagByte z n h c) = c := by
  cases z <;> cases n <;> cases h <;> cases c <;> rfl
@[simp] theorem flagByte_masked (z n h c : Bool) : flagByte z n h c &&& 0xF0#8 = flagByte z n h c := by
  cases z <;> cases n <;> cases h <;> cases c <;> rfl

theorem masked_toNat_mod (v : Byte) : (v &&& 0xF0#8).toNat % 16 = 0 := by revert v; decide +kernel
theorem masked_toNat (v : Byte) : (v &&& 0xF0#8).toNat = v.toNat / 16 * 16 := by revert v; decide +kernel

end Machine

end Sys2Proof
end

