-- ==== Sys2Proof/Laws/Decode.lean ====
section
/-! SUPPORT. The decoder and the encoder: case analysis on a byte, bytes past an instruction's length do not count,
and what decoding a list of three bytes says. -/

namespace Sys2Proof

/-- A property of all bytes is one of the 256 numbers. -/
theorem forall_byte {P : Byte → Prop} (h : ∀ n, n < 256 → P (BitVec.ofNat 8 n)) (b : Byte) : P b := by
  simpa using h b.toNat b.isLt

/-- A property of the eight 3-bit literals. -/
theorem forall_fin8 {P : Fin 8 → Prop} (h0 : P 0) (h1 : P 1) (h2 : P 2) (h3 : P 3) (h4 : P 4) (h5 : P 5) (h6 : P 6)
    (h7 : P 7) (b : Fin 8) : P b :=
  match b with
  | 0 => h0
  | 1 => h1
  | 2 => h2
  | 3 => h3
  | 4 => h4
  | 5 => h5
  | 6 => h6
  | 7 => h7

/-- Quadrant 0: one-byte instructions use neither operand, two-byte instructions not the second. -/
theorem decodeX0_ignores (n m : Byte) (nn mm : Word) : ∀ y, y < 8 → ∀ z, z < 8 →
    (instrLength (BitVec.ofNat 8 (8 * y + z)) = 1 → decodeX0 y z n nn = decodeX0 y z m mm) ∧
    (instrLength (BitVec.ofNat 8 (8 * y + z)) = 2 → decodeX0 y z n nn = decodeX0 y z n mm) := by
  intro y hy z hz
  constructor <;> interval_cases y <;> interval_cases z <;>
    first | exact fun h => absurd h (by decide) | exact fun _ => rfl

/-- Quadrant 3: one-byte instructions use neither operand, two-byte instructions not the second. -/
theorem decodeX3_ignores (n m : Byte) (nn mm : Word) : ∀ y, y < 8 → ∀ z, z < 8 →
    (instrLength (BitVec.ofNat 8 (192 + 8 * y + z)) = 1 → decodeX3 y z n nn = decodeX3 y z m mm) ∧
    (instrLength (BitVec.ofNat 8 (192 + 8 * y + z)) = 2 → decodeX3 y z n nn = decodeX3 y z n mm) := by
  intro y hy z hz
  constructor <;> interval_cases y <;> interval_cases z <;>
    first | exact fun h => absurd h (by decide) | exact fun _ => rfl

theorem fieldX_eq_three {op : Byte} (h0 : fieldX op ≠ 0) (h1 : fieldX op ≠ 1) (h2 : fieldX op ≠ 2) : fieldX op = 3 := by
  have := op.isLt
  simp only [fieldX] at *
  omega
theorem fieldY_lt (op : Byte) : fieldY op < 8 := Nat.mod_lt _ (by decide)
theorem fieldZ_lt (op : Byte) : fieldZ op < 8 := Nat.mod_lt _ (by decide)

/-- A byte is its three fields. -/
theorem byte_of_fields (op : Byte) : op = BitVec.ofNat 8 (64 * fieldX op + 8 * fieldY op + fieldZ op) := by
  apply BitVec.eq_of_toNat_eq
  have := op.isLt
  simp [fieldX, fieldY, fieldZ]
  omega

theorem escape_length : instrLength Config.escapeByte = 2 := by decide

/-- A one-byte instruction does not depend on the bytes after it. -/
theorem decodeBytes_length_one {b0 : Byte} (h : instrLength b0 = 1) (b1 b2 c1 c2 : Byte) :
    decodeBytes b0 b1 b2 = decodeBytes b0 c1 c2 := by
  have he : b0 ≠ Config.escapeByte := by rintro rfl; rw [escape_length] at h; cases h
  have hb := byte_of_fields b0
  simp only [decodeBytes, if_neg he]
  split
  · rename_i hx
    rw [hb, hx] at h
    exact (decodeX0_ignores _ _ _ _ _ (fieldY_lt b0) _ (fieldZ_lt b0)).1 (by simpa using h)
  · rfl
  · rfl
  · rename_i h0 h1 h2
    have hx : fieldX b0 = 3 := fieldX_eq_three h0 h1 h2
    rw [hb, hx] at h
    exact (decodeX3_ignores _ _ _ _ _ (fieldY_lt b0) _ (fieldZ_lt b0)).1 h

/-- A two-byte instruction does not depend on the third byte. -/
theorem decodeBytes_length_two {b0 : Byte} (h : instrLength b0 = 2) (b1 b2 c2 : Byte) :
    decodeBytes b0 b1 b2 = decodeBytes b0 b1 c2 := by
  by_cases he : b0 = Config.escapeByte
  · simp [decodeBytes, he]
  have hb := byte_of_fields b0
  simp only [decodeBytes, if_neg he]
  split
  · rename_i hx
    rw [hb, hx] at h
    exact (decodeX0_ignores _ b1 _ _ _ (fieldY_lt b0) _ (fieldZ_lt b0)).2 (by simpa using h)
  · rfl
  · rfl
  · rename_i h0 h1 h2
    have hx : fieldX b0 = 3 := fieldX_eq_three h0 h1 h2
    rw [hb, hx] at h
    exact (decodeX3_ignores _ b1 _ _ _ (fieldY_lt b0) _ (fieldZ_lt b0)).2 h

/-- The decoder on the three bytes a fetch reads. -/
theorem decodeBytes_of_decode {b0 b1 b2 : Byte} {i : Instr} {rest : List Byte} (h : decode [b0, b1, b2] = .ok (i, rest)) :
    decodeBytes b0 b1 b2 = i := by
  simp only [decode] at h
  split at h
  · rename_i hlen _
    simp only [Except.ok.injEq, Prod.mk.injEq] at h
    rw [← h.1]; exact decodeBytes_length_one (by assumption) _ _ _ _
  · rename_i heq
    simp only [Except.ok.injEq, Prod.mk.injEq] at h
    cases heq
    rw [← h.1]; exact decodeBytes_length_two (by assumption) _ _ _
  · rename_i heq
    cases heq
    simp only [Except.ok.injEq, Prod.mk.injEq] at h
    exact h.1
  · cases h

end Sys2Proof
end

