-- ==== Sys2Proof/Laws/Devices.lean ====
section
/-! SUPPORT. The parts of a cycle before the CPU's step: what the host's actions, the DMA step and a launch may change,
one lemma for each (00_scope.md R9, 49_lcd_dma.md R380, 70_reset_and_hazards.md R442). -/

namespace Sys2Proof.Machine

open Sys2Proof

/-! ## The host's actions -/

theorem coreKey_eq_true {k : Nat} : coreKey k = true ↔ (0x8000 ≤ k ∧ k ≤ 0x9FFF) ∨ (0xFE00 ≤ k ∧ k ≤ 0xFE9F) := by
  simp [coreKey]

namespace State

/-- An action of the host changes IF, the stored bytes and the overlays' switches alone. -/
theorem applyAction_frame (s : State) (x : HostAction) :
    s.applyAction x = { s with iflag := (s.applyAction x).iflag, mem := (s.applyAction x).mem,
                               bus := (s.applyAction x).bus } := by
  cases x <;> first | rfl | (simp only [applyAction]; split <;> rfl)

theorem applyActions_frame (now : List HostAction) (s : State) :
    now.foldl applyAction s = { s with iflag := (now.foldl applyAction s).iflag, mem := (now.foldl applyAction s).mem,
                                       bus := (now.foldl applyAction s).bus } := by
  induction now generalizing s with
  | nil => rfl
  | cons x now ih => rw [List.foldl_cons, ih (s.applyAction x)]; rw [applyAction_frame s x]

/-- An action sets no bit of IF but those of Serial and Joypad. -/
theorem applyAction_iflag (s : State) (x : HostAction) {j : Nat} (h3 : j ≠ 3) (h4 : j ≠ 4) :
    (s.applyAction x).iflag.getLsbD j = s.iflag.getLsbD j := by
  cases x with
  | setExternal k v => simp only [applyAction]; split <;> rfl
  | enableOverlay on => rfl
  | _ =>
    by_cases hj : j < 8
    · interval_cases j <;> first | contradiction | simp [applyAction, Interrupt.bit, Interrupt.index]
    · simp [BitVec.getLsbD_of_ge _ _ (not_lt.mp hj)]

theorem applyAction_setExternal_read (s : State) (k j : Nat) (v : Byte) :
    (s.applyAction (.setExternal k v)).mem.read j = if coreKey k = false ∧ j = k then v else s.mem.read j := by
  simp only [applyAction]
  split <;> simp_all [Memory.read_write]

/-- No action writes a byte of VRAM or OAM. -/
theorem applyAction_coreKey (s : State) (x : HostAction) {j : Nat} (h : coreKey j = true) :
    (s.applyAction x).mem.read j = s.mem.read j := by
  cases x with
  | setExternal k v => rw [applyAction_setExternal_read, if_neg (by rintro ⟨h', rfl⟩; rw [h] at h'; cases h')]
  | _ => rfl

theorem wf_applyAction {s : State} (h : s.mem.wf) (x : HostAction) : (s.applyAction x).mem.wf := by
  cases x with
  | setExternal k v =>
    simp only [applyAction]
    split
    · exact h
    · exact Memory.wf_write h k v
  | _ => exact h

/-! ## The DMA step -/

/-- A write to OAM's addresses changes the stored bytes alone. -/
theorem busWrite_oam (s : State) {k : Nat} (hk : k < 160) (v : Byte) :
    s.busWrite (0xFE00#16 + BitVec.ofNat 16 k) v =
      { s with mem := (s.busWrite (0xFE00#16 + BitVec.ofNat 16 k) v).mem } := by
  refine busWrite_induct (P := fun t => t = { s with mem := t.mem }) s (fun t d _ h => ?_) rfl
  have hn : ∀ {e : Component}, e = .cpu ∨ e = .timer ∨ e = .lcd → e.owns (0xFE00#16 + BitVec.ofNat 16 k) = false := by
    have : (0xFE00#16 + BitVec.ofNat 16 k).toNat = 0xFE00 + k := by
      simp only [BitVec.toNat_add, BitVec.toNat_ofNat]; omega
    rintro e (rfl | rfl | rfl)
    · simp only [Component.owns, Config.regIf, Config.regIe, Bool.or_eq_false_iff, beq_eq_false_iff_ne]
      constructor <;> bv_omega
    all_goals simp only [Component.owns, this, Bool.and_eq_false_iff, decide_eq_false_iff_not]; omega
  cases hd : d.keepsWrites
  · cases d <;> simp only [Component.keepsWrites, Bool.true_eq_false] at hd
    case rom => exact h
    case overlay => exact h
    all_goals rw [componentWrite_of_not_owns (hn (by simp))]; exact h
  · rcases componentWrite_storage hd t (0xFE00#16 + BitVec.ofNat 16 k) v with e | ⟨_, _, e⟩ <;> rw [e]
    · exact h
    · rw [h]

end State

/-! ## A launch -/

/-- The external contents stay canonical whatever is listed. -/
theorem wf_externalContents (cells : List Host.Cell) : (externalContents cells).wf := by
  suffices ∀ m : Memory, m.wf → (cells.foldl (fun m c => if coreKey c.1 then m else m.write c.1 c.2) m).wf from
    this [] Memory.wf_nil
  induction cells with
  | nil => exact fun m h => h
  | cons c cells ih =>
    intro m h
    refine ih _ ?_
    dsimp only
    split
    · exact h
    · exact Memory.wf_write h _ _

/-- One more cell at the end of the list. -/
theorem externalContents_concat (cells : List Host.Cell) (c : Host.Cell) :
    externalContents (cells ++ [c]) =
      if coreKey c.1 then externalContents cells else (externalContents cells).write c.1 c.2 := by
  simp [externalContents]

/-- A launch answers the reset state with its three parameters, or fails when nothing owns the entry address. -/
theorem State.launch_eq (platform : List Component) (contents : List Host.Cell) (inputs : List (List HostAction)) :
    State.launch platform contents inputs =
      if platform.any (fun d => d.owns 0x0000#16) then
        .next { State.resetOn platform (externalContents contents) with hostInputs := inputs }
      else .refused .missingCollaborator := by
  simp only [State.launch, State.answersEntry, Component.isSome_read]
  rfl

end Sys2Proof.Machine
end

