-- ==== Sys2Proof/Laws/Families.lean ====
section
/-! SUPPORT. The meanings of one family are one shared operation of the family's operands. -/

namespace Sys2Proof.Machine

open Sys2Proof

variable (s : State)

theorem exec_ldRR (r q : Reg8) : exec (.ldRR r q) s = .next (s.loadReg r (s.reg q) 1 1) := by
  cases r <;> cases q <;> rfl
theorem exec_ldRN (r : Reg8) (n : Byte) : exec (.ldRN r n) s = .next (s.loadReg r n 2 2) := by cases r <;> rfl
theorem exec_ldRM (r : Reg8) : exec (.ldRM r) s = .next (s.loadReg r (s.busRead s.hl) 1 2) := by cases r <;> rfl
theorem exec_ldMR (r : Reg8) : exec (.ldMR r) s = .next (s.storeByte s.hl (s.reg r) 1 2) := by cases r <;> rfl
theorem exec_ldPairNN (p : Pair) (nn : Word) : exec (.ldPairNN p nn) s = .next (s.loadPair p nn) := by cases p <;> rfl
theorem exec_pushPair (q : StackPair) : exec (.pushPair q) s = .next (s.pushPair q) := by cases q <;> rfl
theorem exec_popPair (q : StackPair) : exec (.popPair q) s = .next (s.popPair q) := by cases q <;> rfl
theorem exec_aluR (op : AluOp) (r : Reg8) : exec (.aluR op r) s = .next (s.acc op (s.reg r) 1 1) := by
  cases op <;> cases r <;> rfl
theorem exec_aluN (op : AluOp) (n : Byte) : exec (.aluN op n) s = .next (s.acc op n 2 2) := by cases op <;> rfl
theorem exec_aluM (op : AluOp) : exec (.aluM op) s = .next (s.acc op (s.busRead s.hl) 1 2) := by cases op <;> rfl
theorem exec_incR (r : Reg8) : exec (.incR r) s = .next (s.incReg r) := by cases r <;> rfl
theorem exec_decR (r : Reg8) : exec (.decR r) s = .next (s.decReg r) := by cases r <;> rfl
theorem exec_addHL (p : Pair) : exec (.addHL p) s = .next (s.addPair p) := by cases p <;> rfl
theorem exec_incPair (p : Pair) : exec (.incPair p) s = .next (s.stepPair p (s.pair p + 1)) := by cases p <;> rfl
theorem exec_decPair (p : Pair) : exec (.decPair p) s = .next (s.stepPair p (s.pair p - 1)) := by cases p <;> rfl
theorem exec_jpCond (cc : Cond) (nn : Word) : exec (.jpCond cc nn) s = .next (s.jumpIf cc nn) := by cases cc <;> rfl
theorem exec_jrCond (cc : Cond) (e : Byte) : exec (.jrCond cc e) s = .next (s.relativeIf cc e) := by cases cc <;> rfl
theorem exec_callCond (cc : Cond) (nn : Word) : exec (.callCond cc nn) s = .next (s.callIf cc nn) := by
  cases cc <;> rfl
theorem exec_retCond (cc : Cond) : exec (.retCond cc) s = .next (s.returnIf cc) := by cases cc <;> rfl
theorem exec_rst (y : Fin 8) : exec (.rst y) s = .next (s.callTo (BitVec.ofNat 16 (8 * y.val)) 1 4) := by
  match y with
  | 0 | 1 | 2 | 3 | 4 | 5 | 6 | 7 => rfl
theorem exec_rotR (op : RotOp) (r : Reg8) : exec (.rotR op r) s = .next (s.rotReg op r) := by
  cases op <;> cases r <;> rfl
theorem exec_rotM (op : RotOp) : exec (.rotM op) s = .next (s.rotMem op) := by cases op <;> rfl
theorem exec_bitR (b : Fin 8) (r : Reg8) : exec (.bitR b r) s = .next (s.bitTest b (s.reg r) 2) := by cases r <;> rfl
theorem exec_resR (b : Fin 8) (r : Reg8) : exec (.resR b r) s = .next (s.bitReg r (clearBit (s.reg r) b)) := by
  cases r <;> rfl
theorem exec_setR (b : Fin 8) (r : Reg8) : exec (.setR b r) s = .next (s.bitReg r (setBit (s.reg r) b)) := by
  cases r <;> rfl

end Sys2Proof.Machine
end

