-- ==== Sys2Proof/Laws/Frames.lean ====
section
/-! SUPPORT. What the shared operations of the meanings do, once each: the end of an instruction, a load, a store, a
push, a pop. -/

namespace Sys2Proof.Machine

open Sys2Proof

/-! ## Everything outside the CPU's registers is the same -/

theorem SameOutside.of_fields {s t : State} (h1 : t.ime = s.ime) (h2 : t.ie = s.ie) (h3 : t.iflag = s.iflag)
    (h4 : t.timer = s.timer) (h5 : t.lcd = s.lcd) (h6 : t.dma = s.dma) (h7 : t.mem = s.mem) (h8 : t.bus = s.bus)
    (h9 : t.cycle = s.cycle) (h10 : t.hostInputs = s.hostInputs) : SameOutside s t :=
  ⟨h1, h2, h3, h4, h5, h6, h7, h8, h9, h10, State.busRead_congr ⟨h2, h3, h4, h5, h7, h8⟩⟩

theorem SameOutside.refl (s : State) : SameOutside s s := .of_fields rfl rfl rfl rfl rfl rfl rfl rfl rfl rfl

theorem SameOutside.trans {s t u : State} (h : SameOutside s t) (h' : SameOutside t u) : SameOutside s u :=
  .of_fields (h'.ime.trans h.ime) (h'.ie.trans h.ie) (h'.iflag.trans h.iflag) (h'.timer.trans h.timer)
    (h'.lcd.trans h.lcd) (h'.dma.trans h.dma) (h'.mem.trans h.mem) (h'.bus.trans h.bus) (h'.cycle.trans h.cycle)
    (h'.hostInputs.trans h.hostInputs)

namespace State

variable (s : State)

theorem sameOutside_finish (len n : Nat) : SameOutside s (s.finish len n) :=
  .of_fields rfl rfl rfl rfl rfl rfl rfl rfl rfl rfl
theorem sameOutside_jump (a : Word) (n : Nat) : SameOutside s (s.jump a n) :=
  .of_fields rfl rfl rfl rfl rfl rfl rfl rfl rfl rfl
theorem sameOutside_setReg (r : Reg8) (v : Byte) : SameOutside s (s.setReg r v) := by
  cases r <;> exact .of_fields rfl rfl rfl rfl rfl rfl rfl rfl rfl rfl
theorem sameOutside_setF (v : Byte) : SameOutside s (s.setF v) := .of_fields rfl rfl rfl rfl rfl rfl rfl rfl rfl rfl
theorem sameOutside_setSP (v : Word) : SameOutside s (s.setSP v) := .of_fields rfl rfl rfl rfl rfl rfl rfl rfl rfl rfl
theorem sameOutside_setPair (p : Pair) (v : Word) : SameOutside s (s.setPair p v) := by
  cases p <;> exact .of_fields rfl rfl rfl rfl rfl rfl rfl rfl rfl rfl
theorem sameOutside_setStackPair (q : StackPair) (v : Word) : SameOutside s (s.setStackPair q v) := by
  cases q <;> exact .of_fields rfl rfl rfl rfl rfl rfl rfl rfl rfl rfl

/-! ## The ends of an instruction -/

theorem pcNext_toNat {len : Nat} (h : len < 65536) : (s.pcNext len).toNat = (s.pc.toNat + len) % 65536 := by
  simp [pcNext, BitVec.toNat_add, Nat.mod_eq_of_lt h]

theorem advances_finish {s t : State} {len : Nat} (h : len < 65536) (n : Nat) (hp : t.pc = s.pc) (hc : t.cycle = s.cycle) :
    Advances s (t.finish len n) len n := by
  refine ⟨?_, ?_⟩
  · rw [← hp]; exact t.pcNext_toNat h
  · rw [← hc]; rfl

/-! ## Pairs -/

@[simp] theorem pair_setPair (p : Pair) (v : Word) : (s.setPair p v).pair p = v := by
  cases p <;> simp [pair, setPair, setBC, setDE, setHL, bc, de, hl, setReg]

theorem pair_setPair_other {p q : Pair} (h : q ≠ p) (v : Word) : (s.setPair p v).pair q = s.pair q := by
  cases p <;> cases q <;> first | exact absurd rfl h | rfl

theorem setPair_af (p : Pair) (v : Word) :
    (s.setPair p v).regs.a = s.regs.a ∧ (s.setPair p v).regs.f = s.regs.f := by
  cases p <;> exact ⟨rfl, rfl⟩

theorem samePairsBut_setPair (p : Pair) (v : Word) : SamePairsBut p s (s.setPair p v) :=
  ⟨fun _ h => s.pair_setPair_other h v, (s.setPair_af p v).1, (s.setPair_af p v).2⟩

theorem stackPair_setStackPair_other {p q : StackPair} (h : q ≠ p) (v : Word) :
    (s.setStackPair p v).stackPair q = s.stackPair q := by
  cases p <;> cases q <;> first | exact absurd rfl h | rfl

@[simp] theorem stackPair_setStackPair (q : StackPair) (v : Word) :
    ((s.setStackPair q v).stackPair q).toNat = if q = .AF then v.toNat / 16 * 16 else v.toNat := by
  have h : (loByte v &&& 0xF0#8).toNat = v.toNat % 256 / 16 * 16 := by rw [masked_toNat, loByte_toNat]
  cases q
  case AF =>
    simp only [stackPair, setStackPair, setAF, af, setReg, setF, wordOf_toNat, hiByte_toNat, h, if_true]
    omega
  all_goals simp [stackPair, setStackPair, setBC, setDE, setHL, bc, de, hl, setReg]

/-! ## Stores -/

theorem componentWrite_setSP (d : Component) (a w : Word) (v : Byte) :
    (s.setSP w).componentWrite d a v = (s.componentWrite d a v).setSP w := by
  cases d <;> simp only [componentWrite] <;> (repeat' split) <;> rfl

/-- A change of state that commutes with every component's write commutes with the bus write. -/
theorem busWrite_comm {f : State → State} {a : Word} {v : Byte} (hbus : (f s).bus = s.bus)
    (hf : ∀ t d, (f t).componentWrite d a v = f (t.componentWrite d a v)) : (f s).busWrite a v = f (s.busWrite a v) := by
  simp only [busWrite, hbus]
  generalize s.bus = ds
  clear hbus
  induction ds generalizing s with
  | nil => rfl
  | cons d ds ih => simp only [List.foldl_cons, hf, ih]

/-- A store does not depend on SP. -/
theorem busWrite_setSP (a w : Word) (v : Byte) : (s.setSP w).busWrite a v = (s.busWrite a v).setSP w :=
  s.busWrite_comm (f := fun t => t.setSP w) rfl fun t d => t.componentWrite_setSP d a w v

/-- A store does not depend on the CPU's marker. -/
theorem busWrite_cpuNext_comm (x : Sched) (a : Word) (v : Byte) :
    ({ s with cpuNext := x } : State).busWrite a v = { s.busWrite a v with cpuNext := x } :=
  s.busWrite_comm (f := fun t => { t with cpuNext := x }) rfl fun t d => by
    cases d <;> simp only [componentWrite] <;> (repeat' split) <;> rfl

/-- What a store followed by changes of the CPU's registers does. -/
theorem StoresOnly.of_sameOutside {s t u : State} {as : List Word} (h : StoresOnly s t as) (h' : SameOutside t u) :
    StoresOnly s u as where
  bytes b hb := (h'.bytes b).trans (h.bytes b hb)
  registers ha := by
    obtain ⟨h1, h2, h3, h4, h5⟩ := h.registers ha
    exact ⟨h'.ie.trans h1, h'.iflag.trans h2, h'.timer.trans h3, h'.lcd.trans h4, h'.dma.trans h5⟩
  ime := h'.ime.trans h.ime
  bus := h'.bus.trans h.bus
  cycle := h'.cycle.trans h.cycle
  hostInputs := h'.hostInputs.trans h.hostInputs

/-- Two stores, then changes of the CPU's registers: what is read at each address. -/
theorem two_stores {s t : State} {a b : Word} {v w : Byte} (h : SameOutside ((s.busWrite a v).busWrite b w) t) :
    StoresOnly s t [a, b] ∧ (plainByte s.bus b = true → t.busRead b = w) ∧
      (plainByte s.bus a = true → affects s.bus b a = false → t.busRead a = v) := by
  refine ⟨StoresOnly.of_sameOutside
    (storesOnly_trans (storesOnly_busWrite s a v) (storesOnly_busWrite _ b w)) h, fun hb => ?_, fun ha hab => ?_⟩
  · rw [h.bytes, busRead_busWrite_same (by simpa using hb)]
  · rw [h.bytes, busRead_busWrite_other (by simpa using hab), busRead_busWrite_same ha]

/-! ## The stack -/

theorem push16_eq (v : Word) :
    s.push16 v = ((s.busWrite (s.sp - 1) (hiByte v)).busWrite (s.sp - 2) (loByte v)).setSP (s.sp - 2) := by
  have h : s.sp - 2 + 1 = s.sp - 1 := by bv_omega
  simp only [push16, setSP_sp, busWrite_setSP, h]

theorem push16_sp (v : Word) : (s.push16 v).sp = s.sp - 2 := by rw [push16_eq]; rfl
theorem push16_regs (v : Word) : (s.push16 v).regs = s.regs := by simp [push16_eq]
theorem push16_pc (v : Word) : (s.push16 v).pc = s.pc := by simp [push16_eq]
theorem push16_cycle (v : Word) : (s.push16 v).cycle = s.cycle := by simp [push16_eq]

/-- A push does not depend on the CPU's marker. -/
theorem push16_cpuNext (x : Sched) (v : Word) :
    ({ s with cpuNext := x } : State).push16 v = { s.push16 v with cpuNext := x } :=
  (congrArg (fun t => State.busWrite t (s.sp - 2) (loByte v))
    (busWrite_cpuNext_comm (s.setSP (s.sp - 2)) x (s.sp - 2 + 1) (hiByte v))).trans (busWrite_cpuNext_comm _ x _ _)

theorem sp_sub_two (a : Word) : (a - 2).toNat = (a.toNat + 65534) % 65536 := by bv_omega

theorem pushed_push16 {t : State} {v : Word} (h : SameOutside (s.push16 v) t) (hsp : t.sp = s.sp - 2) :
    Pushed s t v := by
  have ho : SameOutside ((s.busWrite (s.sp - 1) (hiByte v)).busWrite (s.sp - 2) (loByte v)) t :=
    (push16_eq s v ▸ sameOutside_setSP _ _ : SameOutside _ (s.push16 v)).trans h
  obtain ⟨h1, h2, h3⟩ := two_stores ho
  exact ⟨by rw [hsp, sp_sub_two], ho, h1, h2, h3⟩

end State

end Sys2Proof.Machine
end

