-- ==== Sys2Proof/Laws/Interrupts.lean ====
section
/-! SUPPORT. The pending set, the kind that is taken, and the CPU's waking. -/

namespace Sys2Proof.Machine

open Sys2Proof

theorem pendingSet_bit (ie iflag : Byte) {j : Nat} (h : j < 5) :
    (pendingSet ie iflag).getLsbD j = (ie.getLsbD j && iflag.getLsbD j) := by
  simp only [pendingSet, BitVec.getLsbD_and]
  interval_cases j <;> simp

/-- The kind taken is the least index whose bits are set in both IE and IF. -/
theorem leastPending_eq_some {ie iflag : Byte} {k : Interrupt}
    (h1 : ie.getLsbD k.index = true ∧ iflag.getLsbD k.index = true)
    (h2 : ∀ j, j < k.index → ¬(ie.getLsbD j = true ∧ iflag.getLsbD j = true)) :
    leastPending (pendingSet ie iflag) = some k := by
  simp only [leastPending, pendingSet_bit ie iflag (show 0 < 5 by decide), pendingSet_bit ie iflag (show 1 < 5 by decide),
    pendingSet_bit ie iflag (show 2 < 5 by decide), pendingSet_bit ie iflag (show 3 < 5 by decide),
    pendingSet_bit ie iflag (show 4 < 5 by decide), Bool.and_eq_true]
  cases k <;> simp only [Interrupt.index] at h1 h2
  · rw [if_pos h1]
  · rw [if_neg (h2 0 (by decide)), if_pos h1]
  · rw [if_neg (h2 0 (by decide)), if_neg (h2 1 (by decide)), if_pos h1]
  · rw [if_neg (h2 0 (by decide)), if_neg (h2 1 (by decide)), if_neg (h2 2 (by decide)), if_pos h1]
  · rw [if_neg (h2 0 (by decide)), if_neg (h2 1 (by decide)), if_neg (h2 2 (by decide)), if_neg (h2 3 (by decide)),
      if_pos h1]

theorem leastPending_of_zero {p : Byte} (h : p = 0#8) : leastPending p = none := by subst h; rfl

namespace State

variable {s : State}

theorem interruptTaken_eq_none (h : s.ime = false ∨ s.pending = 0#8) : s.interruptTaken = none := by
  simp only [interruptTaken]
  rcases h with h | h
  · simp [h]
  · split
    · exact leastPending_of_zero h
    · rfl

theorem wake_of_active {n : Nat} (h : s.cpuNext = .activeAt n) : s.wake = s := by simp [wake, h]
theorem wake_of_quiet (h : s.pending = 0#8) : s.wake = s := by simp [wake, h]
theorem wake_of_idle (h : s.cpuNext = .idle) (hp : s.pending ≠ 0#8) :
    s.wake = { s with cpuNext := .activeAt s.cycle } := by simp [wake, h, hp]

/-- Dispatching does not depend on the CPU's marker, which it writes. -/
theorem dispatchInterrupt_cpuNext (x : Sched) (k : Interrupt) :
    ({ s with cpuNext := x } : State).dispatchInterrupt k = s.dispatchInterrupt k :=
  (congrArg (fun u : State => u.jump k.vector Config.dispatchCycles)
    (push16_cpuNext { s with ime := false, iflag := s.iflag &&& ~~~k.bit } x s.pc)).trans rfl

end State

end Sys2Proof.Machine
end

