-- ==== Sys2Proof/Laws/Pixels.lean ====
section
/-! SUPPORT. The bits and pixels that the pixel operations give. -/

namespace Sys2Proof.Machine

open Sys2Proof

namespace Bits

theorem toNat_lt (f : Nat → Bool) (n : Nat) : toNat f n < 2 ^ n := by
  induction n with
  | zero => simp [toNat]
  | succ n ih =>
    simp only [toNat, Nat.pow_succ]
    cases f n <;> simp <;> omega

theorem testBit_toNat (f : Nat → Bool) (n i : Nat) : (toNat f n).testBit i = (decide (i < n) && f i) := by
  induction n with
  | zero => simp [toNat]
  | succ n ih =>
    have hlt := toNat_lt f n
    simp only [toNat]
    rw [Nat.mul_comm, Nat.testBit_two_pow_mul_add _ hlt]
    by_cases h : i < n
    · simp [h, ih, Nat.lt_succ_of_lt h]
    · simp only [h, if_false]
      by_cases h' : i = n
      · subst h'; cases hf : f i <;> simp
      · have : ¬ i < n + 1 := by omega
        have h1 : 1 ≤ i - n := by omega
        simp only [this, decide_false, Bool.false_and]
        cases f n
        · simp
        · exact Nat.testBit_lt_two_pow (by simpa using Nat.one_lt_two_pow (by omega))

/-- Bit i of the vector built from a function. -/
@[simp] theorem getLsbD_ofFn (n : Nat) (f : Nat → Bool) (i : Nat) : (ofFn n f).getLsbD i = (decide (i < n) && f i) := by
  rw [← testBit_toNat]
  show (BitVec.ofNat n (toNat f n)).toNat.testBit i = _
  rw [BitVec.toNat_ofNat, Nat.mod_eq_of_lt (toNat_lt f n)]

theorem getInt_eq {n : Nat} (v : BitVec n) (i : Int) :
    getInt v i = (decide (0 ≤ i) && decide (i < n) && v.getLsbD i.toNat) := by
  simp only [getInt]
  by_cases h : 0 ≤ i
  · by_cases h' : i < n
    · simp [h, h']
    · have : v.getLsbD i.toNat = false := BitVec.getLsbD_of_ge _ _ (by omega)
      simp [this]
  · simp [h]

end Bits

namespace ImageLine

theorem selectBits_getLsbD {n : Nat} (mask a b : BitVec n) {x : Nat} (hx : x < n) :
    (selectBits mask a b).getLsbD x = if mask.getLsbD x then b.getLsbD x else a.getLsbD x := by
  simp only [selectBits, BitVec.getLsbD_or, BitVec.getLsbD_and, BitVec.getLsbD_not, hx, decide_true, Bool.true_and]
  cases mask.getLsbD x <;> simp

theorem color_eq_of_bits {n m : Nat} {a : ImageLine n} {b : ImageLine m} {x y : Nat} (h1 : a.msb.getLsbD x = b.msb.getLsbD y)
    (h2 : a.lsb.getLsbD x = b.lsb.getLsbD y) : a.color x = b.color y := by simp [color, h1, h2]

theorem color_ofPixels {n : Nat} (f : Nat → Pixel) {x : Nat} (hx : x < n) : (ofPixels n f).color x = (f x).color := by
  simp only [color, ofPixels, Bits.getLsbD_ofFn, hx, decide_true, Bool.true_and]
  generalize (f x).color = c
  revert c
  decide

theorem isOpaque_ofPixels {n : Nat} (f : Nat → Pixel) {x : Nat} (hx : x < n) :
    (ofPixels n f).isOpaque x = (f x).painted := by
  simp only [isOpaque, ofPixels, Bits.getLsbD_ofFn, hx, decide_true, Bool.true_and]

theorem color_belowMask {n : Nat} (a b : ImageLine n) (mask : BitVec n) {x : Nat} (hx : x < n) :
    (a.belowMask b mask).color x = if mask.getLsbD x then b.color x else a.color x := by
  simp only [color, belowMask, selectBits_getLsbD _ _ _ hx]
  split <;> rfl

theorem isOpaque_belowMask {n : Nat} (a b : ImageLine n) (mask : BitVec n) (x : Nat) :
    (a.belowMask b mask).isOpaque x = (a.isOpaque x || mask.getLsbD x) := by simp [isOpaque, belowMask]

theorem color_below {n : Nat} (a b : ImageLine n) {x : Nat} (hx : x < n) :
    (a.below b).color x = if b.isOpaque x then b.color x else a.color x := a.color_belowMask b _ hx

theorem color_join {n : Nat} (a b : ImageLine n) (k : Nat) {x : Nat} (hx : x < n) :
    (a.join b k).color x = if x < k then a.color x else b.color x := by
  simp only [color, join, selectBits_getLsbD _ _ _ hx, lowMask, Bits.getLsbD_ofFn, hx, decide_true, Bool.true_and,
    decide_eq_true_eq]
  split <;> rfl

end ImageLine

end Sys2Proof.Machine
end

