-- ==== Sys2Proof/Tests/Slice0.lean ====
section
/-! SUPPORT. The model's own tests. Decoding: words written out from the encodings of spec/opcode_table.json and
30_encoding.md. Machine: vectors of 95_test_vectors.md, one step each. Last, for every statement with hypotheses, the
witnesses: concrete states and operands that meet all of them together. -/

namespace Sys2Proof.Tests

open Sys2Proof Sys2Proof.Machine

-- One theorem after the other: many kernel evaluations at once take more threads than the checks allow.
set_option Elab.async false

/-! ## Well-formedness -/

/-- The one check: the bare escape byte is no instruction (30_encoding.md R103). -/
theorem test_wellFormed_refuses_the_escape :
    (Instr.escape 0x11#8).wellFormed = false ∧ (Instr.rlc_B).wellFormed = true := by decide

/-! ## Decoding -/

/-- The bytes decode to the instruction, and none is left. -/
def decodesTo (p : List Byte × Instr) : Bool :=
  match decode p.1 with
  | .ok (i, []) => i == p.2
  | _ => false

/-- `01 ddd sss` and the other fields, written as bits of one byte (30_encoding.md R101). -/
def bits (x y z : Nat) : Byte := BitVec.ofNat 8 (64 * x + 8 * y + z)

/-- The rows of the opcode table with x = 0, part 1 of 2. -/
theorem test_decode_row0_0 : [
  ([0b00_000_000#8], .nop), ([0b00_000_001#8, 0x34#8, 0x12#8], .ld_BC_nn 0x1234#16), ([0b00_000_010#8], .ld_mBC_A),
  ([0b00_000_011#8], .inc_BC), ([0b00_000_100#8], .inc_B), ([0b00_000_101#8], .dec_B),
  ([0b00_000_110#8, 0xA5#8], .ld_B_n 0xA5#8), ([0b00_000_111#8], .rlca),
  ([0b00_001_000#8, 0x34#8, 0x12#8], .ld_mnn_SP 0x1234#16), ([0b00_001_001#8], .add_HL_BC),
  ([0b00_001_010#8], .ld_A_mBC), ([0b00_001_011#8], .dec_BC), ([0b00_001_100#8], .inc_C), ([0b00_001_101#8], .dec_C),
  ([0b00_001_110#8, 0xA5#8], .ld_C_n 0xA5#8), ([0b00_001_111#8], .rrca), ([0b00_010_000#8], .stop),
  ([0b00_010_001#8, 0x34#8, 0x12#8], .ld_DE_nn 0x1234#16), ([0b00_010_010#8], .ld_mDE_A),
  ([0b00_010_011#8], .inc_DE), ([0b00_010_100#8], .inc_D), ([0b00_010_101#8], .dec_D),
  ([0b00_010_110#8, 0xA5#8], .ld_D_n 0xA5#8), ([0b00_010_111#8], .rla), ([0b00_011_000#8, 0xA5#8], .jr_e 0xA5#8),
  ([0b00_011_001#8], .add_HL_DE), ([0b00_011_010#8], .ld_A_mDE), ([0b00_011_011#8], .dec_DE),
  ([0b00_011_100#8], .inc_E), ([0b00_011_101#8], .dec_E), ([0b00_011_110#8, 0xA5#8], .ld_E_n 0xA5#8),
  ([0b00_011_111#8], .rra)].all decodesTo = true := by decide +kernel

/-- The rows of the opcode table with x = 0, part 2 of 2. -/
theorem test_decode_row0_1 : [
  ([0b00_100_000#8, 0xA5#8], .jr_NZ_e 0xA5#8), ([0b00_100_001#8, 0x34#8, 0x12#8], .ld_HL_nn 0x1234#16),
  ([0b00_100_010#8], .ld_mHLi_A), ([0b00_100_011#8], .inc_HL), ([0b00_100_100#8], .inc_H),
  ([0b00_100_101#8], .dec_H), ([0b00_100_110#8, 0xA5#8], .ld_H_n 0xA5#8), ([0b00_100_111#8], .daa),
  ([0b00_101_000#8, 0xA5#8], .jr_Z_e 0xA5#8), ([0b00_101_001#8], .add_HL_HL), ([0b00_101_010#8], .ld_A_mHLi),
  ([0b00_101_011#8], .dec_HL), ([0b00_101_100#8], .inc_L), ([0b00_101_101#8], .dec_L),
  ([0b00_101_110#8, 0xA5#8], .ld_L_n 0xA5#8), ([0b00_101_111#8], .cpl), ([0b00_110_000#8, 0xA5#8], .jr_NC_e 0xA5#8),
  ([0b00_110_001#8, 0x34#8, 0x12#8], .ld_SP_nn 0x1234#16), ([0b00_110_010#8], .ld_mHLd_A),
  ([0b00_110_011#8], .inc_SP), ([0b00_110_100#8], .inc_mHL), ([0b00_110_101#8], .dec_mHL),
  ([0b00_110_110#8, 0xA5#8], .ld_mHL_n 0xA5#8), ([0b00_110_111#8], .scf), ([0b00_111_000#8, 0xA5#8], .jr_C_e 0xA5#8),
  ([0b00_111_001#8], .add_HL_SP), ([0b00_111_010#8], .ld_A_mHLd), ([0b00_111_011#8], .dec_SP),
  ([0b00_111_100#8], .inc_A), ([0b00_111_101#8], .dec_A), ([0b00_111_110#8, 0xA5#8], .ld_A_n 0xA5#8),
  ([0b00_111_111#8], .ccf)].all decodesTo = true := by decide +kernel

/-- The rows of the opcode table with x = 1, part 1 of 2. -/
theorem test_decode_row1_0 : [
  ([0b01_000_000#8], .ld_B_B), ([0b01_000_001#8], .ld_B_C), ([0b01_000_010#8], .ld_B_D), ([0b01_000_011#8], .ld_B_E),
  ([0b01_000_100#8], .ld_B_H), ([0b01_000_101#8], .ld_B_L), ([0b01_000_110#8], .ld_B_mHL),
  ([0b01_000_111#8], .ld_B_A), ([0b01_001_000#8], .ld_C_B), ([0b01_001_001#8], .ld_C_C), ([0b01_001_010#8], .ld_C_D),
  ([0b01_001_011#8], .ld_C_E), ([0b01_001_100#8], .ld_C_H), ([0b01_001_101#8], .ld_C_L),
  ([0b01_001_110#8], .ld_C_mHL), ([0b01_001_111#8], .ld_C_A), ([0b01_010_000#8], .ld_D_B),
  ([0b01_010_001#8], .ld_D_C), ([0b01_010_010#8], .ld_D_D), ([0b01_010_011#8], .ld_D_E), ([0b01_010_100#8], .ld_D_H),
  ([0b01_010_101#8], .ld_D_L), ([0b01_010_110#8], .ld_D_mHL), ([0b01_010_111#8], .ld_D_A),
  ([0b01_011_000#8], .ld_E_B), ([0b01_011_001#8], .ld_E_C), ([0b01_011_010#8], .ld_E_D), ([0b01_011_011#8], .ld_E_E),
  ([0b01_011_100#8], .ld_E_H), ([0b01_011_101#8], .ld_E_L), ([0b01_011_110#8], .ld_E_mHL), ([0b01_011_111#8], .ld_E_A)].all decodesTo = true :=
  by decide +kernel

/-- The rows of the opcode table with x = 1, part 2 of 2. -/
theorem test_decode_row1_1 : [
  ([0b01_100_000#8], .ld_H_B), ([0b01_100_001#8], .ld_H_C), ([0b01_100_010#8], .ld_H_D), ([0b01_100_011#8], .ld_H_E),
  ([0b01_100_100#8], .ld_H_H), ([0b01_100_101#8], .ld_H_L), ([0b01_100_110#8], .ld_H_mHL),
  ([0b01_100_111#8], .ld_H_A), ([0b01_101_000#8], .ld_L_B), ([0b01_101_001#8], .ld_L_C), ([0b01_101_010#8], .ld_L_D),
  ([0b01_101_011#8], .ld_L_E), ([0b01_101_100#8], .ld_L_H), ([0b01_101_101#8], .ld_L_L),
  ([0b01_101_110#8], .ld_L_mHL), ([0b01_101_111#8], .ld_L_A), ([0b01_110_000#8], .ld_mHL_B),
  ([0b01_110_001#8], .ld_mHL_C), ([0b01_110_010#8], .ld_mHL_D), ([0b01_110_011#8], .ld_mHL_E),
  ([0b01_110_100#8], .ld_mHL_H), ([0b01_110_101#8], .ld_mHL_L), ([0b01_110_110#8], .halt),
  ([0b01_110_111#8], .ld_mHL_A), ([0b01_111_000#8], .ld_A_B), ([0b01_111_001#8], .ld_A_C),
  ([0b01_111_010#8], .ld_A_D), ([0b01_111_011#8], .ld_A_E), ([0b01_111_100#8], .ld_A_H), ([0b01_111_101#8], .ld_A_L),
  ([0b01_111_110#8], .ld_A_mHL), ([0b01_111_111#8], .ld_A_A)].all decodesTo = true := by decide +kernel

/-- The rows of the opcode table with x = 2, part 1 of 2. -/
theorem test_decode_row2_0 : [
  ([0b10_000_000#8], .add_A_B), ([0b10_000_001#8], .add_A_C), ([0b10_000_010#8], .add_A_D),
  ([0b10_000_011#8], .add_A_E), ([0b10_000_100#8], .add_A_H), ([0b10_000_101#8], .add_A_L),
  ([0b10_000_110#8], .add_A_mHL), ([0b10_000_111#8], .add_A_A), ([0b10_001_000#8], .adc_A_B),
  ([0b10_001_001#8], .adc_A_C), ([0b10_001_010#8], .adc_A_D), ([0b10_001_011#8], .adc_A_E),
  ([0b10_001_100#8], .adc_A_H), ([0b10_001_101#8], .adc_A_L), ([0b10_001_110#8], .adc_A_mHL),
  ([0b10_001_111#8], .adc_A_A), ([0b10_010_000#8], .sub_B), ([0b10_010_001#8], .sub_C), ([0b10_010_010#8], .sub_D),
  ([0b10_010_011#8], .sub_E), ([0b10_010_100#8], .sub_H), ([0b10_010_101#8], .sub_L), ([0b10_010_110#8], .sub_mHL),
  ([0b10_010_111#8], .sub_A), ([0b10_011_000#8], .sbc_A_B), ([0b10_011_001#8], .sbc_A_C),
  ([0b10_011_010#8], .sbc_A_D), ([0b10_011_011#8], .sbc_A_E), ([0b10_011_100#8], .sbc_A_H),
  ([0b10_011_101#8], .sbc_A_L), ([0b10_011_110#8], .sbc_A_mHL), ([0b10_011_111#8], .sbc_A_A)].all decodesTo = true :=
  by decide +kernel

/-- The rows of the opcode table with x = 2, part 2 of 2. -/
theorem test_decode_row2_1 : [
  ([0b10_100_000#8], .and_B), ([0b10_100_001#8], .and_C), ([0b10_100_010#8], .and_D), ([0b10_100_011#8], .and_E),
  ([0b10_100_100#8], .and_H), ([0b10_100_101#8], .and_L), ([0b10_100_110#8], .and_mHL), ([0b10_100_111#8], .and_A),
  ([0b10_101_000#8], .xor_B), ([0b10_101_001#8], .xor_C), ([0b10_101_010#8], .xor_D), ([0b10_101_011#8], .xor_E),
  ([0b10_101_100#8], .xor_H), ([0b10_101_101#8], .xor_L), ([0b10_101_110#8], .xor_mHL), ([0b10_101_111#8], .xor_A),
  ([0b10_110_000#8], .or_B), ([0b10_110_001#8], .or_C), ([0b10_110_010#8], .or_D), ([0b10_110_011#8], .or_E),
  ([0b10_110_100#8], .or_H), ([0b10_110_101#8], .or_L), ([0b10_110_110#8], .or_mHL), ([0b10_110_111#8], .or_A),
  ([0b10_111_000#8], .cp_B), ([0b10_111_001#8], .cp_C), ([0b10_111_010#8], .cp_D), ([0b10_111_011#8], .cp_E),
  ([0b10_111_100#8], .cp_H), ([0b10_111_101#8], .cp_L), ([0b10_111_110#8], .cp_mHL), ([0b10_111_111#8], .cp_A)].all decodesTo = true :=
  by decide +kernel

/-- The rows of the opcode table with x = 3, part 1 of 2. -/
theorem test_decode_row3_0 : [
  ([0b11_000_000#8], .ret_NZ), ([0b11_000_001#8], .pop_BC), ([0b11_000_010#8, 0x34#8, 0x12#8], .jp_NZ_nn 0x1234#16),
  ([0b11_000_011#8, 0x34#8, 0x12#8], .jp_nn 0x1234#16), ([0b11_000_100#8, 0x34#8, 0x12#8], .call_NZ_nn 0x1234#16),
  ([0b11_000_101#8], .push_BC), ([0b11_000_110#8, 0xA5#8], .add_A_n 0xA5#8), ([0b11_000_111#8], .rst_00),
  ([0b11_001_000#8], .ret_Z), ([0b11_001_001#8], .ret), ([0b11_001_010#8, 0x34#8, 0x12#8], .jp_Z_nn 0x1234#16),
  ([0b11_001_100#8, 0x34#8, 0x12#8], .call_Z_nn 0x1234#16), ([0b11_001_101#8, 0x34#8, 0x12#8], .call_nn 0x1234#16),
  ([0b11_001_110#8, 0xA5#8], .adc_A_n 0xA5#8), ([0b11_001_111#8], .rst_08), ([0b11_010_000#8], .ret_NC),
  ([0b11_010_001#8], .pop_DE), ([0b11_010_010#8, 0x34#8, 0x12#8], .jp_NC_nn 0x1234#16),
  ([0b11_010_011#8], .illegal_D3), ([0b11_010_100#8, 0x34#8, 0x12#8], .call_NC_nn 0x1234#16),
  ([0b11_010_101#8], .push_DE), ([0b11_010_110#8, 0xA5#8], .sub_n 0xA5#8), ([0b11_010_111#8], .rst_10),
  ([0b11_011_000#8], .ret_C), ([0b11_011_001#8], .reti), ([0b11_011_010#8, 0x34#8, 0x12#8], .jp_C_nn 0x1234#16),
  ([0b11_011_011#8], .illegal_DB), ([0b11_011_100#8, 0x34#8, 0x12#8], .call_C_nn 0x1234#16),
  ([0b11_011_101#8], .illegal_DD), ([0b11_011_110#8, 0xA5#8], .sbc_A_n 0xA5#8), ([0b11_011_111#8], .rst_18),
  ([0b11_100_000#8, 0xA5#8], .ldh_mn_A 0xA5#8)].all decodesTo = true := by decide +kernel

/-- The rows of the opcode table with x = 3, part 2 of 2. -/
theorem test_decode_row3_1 : [
  ([0b11_100_001#8], .pop_HL), ([0b11_100_010#8], .ld_mC_A), ([0b11_100_011#8], .illegal_E3),
  ([0b11_100_100#8], .illegal_E4), ([0b11_100_101#8], .push_HL), ([0b11_100_110#8, 0xA5#8], .and_n 0xA5#8),
  ([0b11_100_111#8], .rst_20), ([0b11_101_000#8, 0xA5#8], .add_SP_e 0xA5#8), ([0b11_101_001#8], .jp_HL),
  ([0b11_101_010#8, 0x34#8, 0x12#8], .ld_mnn_A 0x1234#16), ([0b11_101_011#8], .illegal_EB),
  ([0b11_101_100#8], .illegal_EC), ([0b11_101_101#8], .illegal_ED), ([0b11_101_110#8, 0xA5#8], .xor_n 0xA5#8),
  ([0b11_101_111#8], .rst_28), ([0b11_110_000#8, 0xA5#8], .ldh_A_mn 0xA5#8), ([0b11_110_001#8], .pop_AF),
  ([0b11_110_010#8], .ld_A_mC), ([0b11_110_011#8], .di), ([0b11_110_100#8], .illegal_F4),
  ([0b11_110_101#8], .push_AF), ([0b11_110_110#8, 0xA5#8], .or_n 0xA5#8), ([0b11_110_111#8], .rst_30),
  ([0b11_111_000#8, 0xA5#8], .ld_HL_SPe 0xA5#8), ([0b11_111_001#8], .ld_SP_HL),
  ([0b11_111_010#8, 0x34#8, 0x12#8], .ld_A_mnn 0x1234#16), ([0b11_111_011#8], .ei), ([0b11_111_100#8], .illegal_FC),
  ([0b11_111_101#8], .illegal_FD), ([0b11_111_110#8, 0xA5#8], .cp_n 0xA5#8), ([0b11_111_111#8], .rst_38)].all decodesTo = true :=
  by decide +kernel

/-- The prefixed rows with x = 0, part 1 of 2. -/
theorem test_decode_prefixed0_0 : [
  ([0xCB#8, 0b00_000_000#8], .rlc_B), ([0xCB#8, 0b00_000_001#8], .rlc_C), ([0xCB#8, 0b00_000_010#8], .rlc_D),
  ([0xCB#8, 0b00_000_011#8], .rlc_E), ([0xCB#8, 0b00_000_100#8], .rlc_H), ([0xCB#8, 0b00_000_101#8], .rlc_L),
  ([0xCB#8, 0b00_000_110#8], .rlc_mHL), ([0xCB#8, 0b00_000_111#8], .rlc_A), ([0xCB#8, 0b00_001_000#8], .rrc_B),
  ([0xCB#8, 0b00_001_001#8], .rrc_C), ([0xCB#8, 0b00_001_010#8], .rrc_D), ([0xCB#8, 0b00_001_011#8], .rrc_E),
  ([0xCB#8, 0b00_001_100#8], .rrc_H), ([0xCB#8, 0b00_001_101#8], .rrc_L), ([0xCB#8, 0b00_001_110#8], .rrc_mHL),
  ([0xCB#8, 0b00_001_111#8], .rrc_A), ([0xCB#8, 0b00_010_000#8], .rl_B), ([0xCB#8, 0b00_010_001#8], .rl_C),
  ([0xCB#8, 0b00_010_010#8], .rl_D), ([0xCB#8, 0b00_010_011#8], .rl_E), ([0xCB#8, 0b00_010_100#8], .rl_H),
  ([0xCB#8, 0b00_010_101#8], .rl_L), ([0xCB#8, 0b00_010_110#8], .rl_mHL), ([0xCB#8, 0b00_010_111#8], .rl_A),
  ([0xCB#8, 0b00_011_000#8], .rr_B), ([0xCB#8, 0b00_011_001#8], .rr_C), ([0xCB#8, 0b00_011_010#8], .rr_D),
  ([0xCB#8, 0b00_011_011#8], .rr_E), ([0xCB#8, 0b00_011_100#8], .rr_H), ([0xCB#8, 0b00_011_101#8], .rr_L),
  ([0xCB#8, 0b00_011_110#8], .rr_mHL), ([0xCB#8, 0b00_011_111#8], .rr_A)].all decodesTo = true := by decide +kernel

/-- The prefixed rows with x = 0, part 2 of 2. -/
theorem test_decode_prefixed0_1 : [
  ([0xCB#8, 0b00_100_000#8], .sla_B), ([0xCB#8, 0b00_100_001#8], .sla_C), ([0xCB#8, 0b00_100_010#8], .sla_D),
  ([0xCB#8, 0b00_100_011#8], .sla_E), ([0xCB#8, 0b00_100_100#8], .sla_H), ([0xCB#8, 0b00_100_101#8], .sla_L),
  ([0xCB#8, 0b00_100_110#8], .sla_mHL), ([0xCB#8, 0b00_100_111#8], .sla_A), ([0xCB#8, 0b00_101_000#8], .sra_B),
  ([0xCB#8, 0b00_101_001#8], .sra_C), ([0xCB#8, 0b00_101_010#8], .sra_D), ([0xCB#8, 0b00_101_011#8], .sra_E),
  ([0xCB#8, 0b00_101_100#8], .sra_H), ([0xCB#8, 0b00_101_101#8], .sra_L), ([0xCB#8, 0b00_101_110#8], .sra_mHL),
  ([0xCB#8, 0b00_101_111#8], .sra_A), ([0xCB#8, 0b00_110_000#8], .swap_B), ([0xCB#8, 0b00_110_001#8], .swap_C),
  ([0xCB#8, 0b00_110_010#8], .swap_D), ([0xCB#8, 0b00_110_011#8], .swap_E), ([0xCB#8, 0b00_110_100#8], .swap_H),
  ([0xCB#8, 0b00_110_101#8], .swap_L), ([0xCB#8, 0b00_110_110#8], .swap_mHL), ([0xCB#8, 0b00_110_111#8], .swap_A),
  ([0xCB#8, 0b00_111_000#8], .srl_B), ([0xCB#8, 0b00_111_001#8], .srl_C), ([0xCB#8, 0b00_111_010#8], .srl_D),
  ([0xCB#8, 0b00_111_011#8], .srl_E), ([0xCB#8, 0b00_111_100#8], .srl_H), ([0xCB#8, 0b00_111_101#8], .srl_L),
  ([0xCB#8, 0b00_111_110#8], .srl_mHL), ([0xCB#8, 0b00_111_111#8], .srl_A)].all decodesTo = true := by decide +kernel

/-- The prefixed rows with x = 1, part 1 of 1. -/
theorem test_decode_prefixed1_0 : [
  ([0xCB#8, 0b01_101_000#8], .bit_b_B 5), ([0xCB#8, 0b01_010_001#8], .bit_b_C 2),
  ([0xCB#8, 0b01_101_010#8], .bit_b_D 5), ([0xCB#8, 0b01_010_011#8], .bit_b_E 2),
  ([0xCB#8, 0b01_101_100#8], .bit_b_H 5), ([0xCB#8, 0b01_010_101#8], .bit_b_L 2),
  ([0xCB#8, 0b01_101_110#8], .bit_b_mHL 5), ([0xCB#8, 0b01_010_111#8], .bit_b_A 2)].all decodesTo = true :=
  by decide +kernel

/-- The prefixed rows with x = 2, part 1 of 1. -/
theorem test_decode_prefixed2_0 : [
  ([0xCB#8, 0b10_101_000#8], .res_b_B 5), ([0xCB#8, 0b10_010_001#8], .res_b_C 2),
  ([0xCB#8, 0b10_101_010#8], .res_b_D 5), ([0xCB#8, 0b10_010_011#8], .res_b_E 2),
  ([0xCB#8, 0b10_101_100#8], .res_b_H 5), ([0xCB#8, 0b10_010_101#8], .res_b_L 2),
  ([0xCB#8, 0b10_101_110#8], .res_b_mHL 5), ([0xCB#8, 0b10_010_111#8], .res_b_A 2)].all decodesTo = true :=
  by decide +kernel

/-- The prefixed rows with x = 3, part 1 of 1. -/
theorem test_decode_prefixed3_0 : [
  ([0xCB#8, 0b11_101_000#8], .set_b_B 5), ([0xCB#8, 0b11_010_001#8], .set_b_C 2),
  ([0xCB#8, 0b11_101_010#8], .set_b_D 5), ([0xCB#8, 0b11_010_011#8], .set_b_E 2),
  ([0xCB#8, 0b11_101_100#8], .set_b_H 5), ([0xCB#8, 0b11_010_101#8], .set_b_L 2),
  ([0xCB#8, 0b11_101_110#8], .set_b_mHL 5), ([0xCB#8, 0b11_010_111#8], .set_b_A 2)].all decodesTo = true :=
  by decide +kernel

/-- The host's numbering of a row's bits: an operand word without bits is zero; a prefixed row has 16. -/
theorem test_decodeTableWord :
    decodeTableWord 8 0x06 = some (.ld_B_n 0x00#8) ∧ decodeTableWord 24 0x1234C3 = some (.jp_nn 0x1234#16) ∧
    decodeTableWord 16 0xCB7C = some (.bit_b_H 7) := by decide +kernel

/-- Too few bytes are refused by name. -/
theorem test_decode_refuses_short_input :
    (match decode [0x3E#8] with | .error .truncated => true | _ => false) = true ∧
    (match decode [0xCB#8] with | .error .truncated => true | _ => false) = true ∧
    (match decode [] with | .error .noBytes => true | _ => false) = true := by decide

/-! ## The ALU (B1) -/

/-- The value and the flags ZNHC of a result word. -/
def gives {w : Nat} (W : AluWord w) (v f : Nat) : Bool := W.val.toNat == v && W.flg.toNat == 16 * f

theorem test_alu_add :
    gives (Alu.add 0x3A#8 0xC6#8 false) 0x00 0b1011 &&
    gives (Alu.add 0x0F#8 0x01#8 false) 0x10 0b0010 &&
    gives (Alu.add 0xFF#8 0x00#8 true) 0x00 0b1011 &&
    gives (Alu.add 0xFF#8 0xFF#8 true) 0xFF 0b0011 &&
    gives (Alu.add 0x00#8 0x00#8 false) 0x00 0b1000 &&
    gives (Alu.add 0x80#8 0x80#8 false) 0x00 0b1001 := by decide +kernel

theorem test_alu_sub :
    gives (Alu.sub 0x3E#8 0x3E#8 false) 0x00 0b1100 &&
    gives (Alu.sub 0x3E#8 0x0F#8 false) 0x2F 0b0110 &&
    gives (Alu.sub 0x3E#8 0x40#8 false) 0xFE 0b0101 &&
    gives (Alu.sub 0x00#8 0x00#8 true) 0xFF 0b0111 &&
    gives (Alu.sub 0x10#8 0x0F#8 true) 0x00 0b1110 &&
    gives (Alu.sub 0x00#8 0x01#8 false) 0xFF 0b0111 := by decide +kernel

theorem test_alu_add16L :
    gives (Alu.add16L 0xFFF8#16 0x0008#16) 0x0000 0b1011 &&
    gives (Alu.add16L 0x1234#16 0x00FE#16) 0x1332 0b0011 &&
    gives (Alu.add16L 0x00FF#16 0x0001#16) 0x0100 0b0011 &&
    gives (Alu.add16L 0x0F0F#16 0x0001#16) 0x0F10 0b0010 &&
    gives (Alu.add16L 0xFFFF#16 0xFFFF#16) 0xFFFE 0b0011 &&
    gives (Alu.add16L 0x0000#16 0x0000#16) 0x0000 0b1000 := by decide +kernel

theorem test_alu_add16H :
    gives (Alu.add16H 0x8A23#16 0x0605#16) 0x9028 0b0010 &&
    gives (Alu.add16H 0x8A23#16 0x8A23#16) 0x1446 0b0011 &&
    gives (Alu.add16H 0x0FFF#16 0x0001#16) 0x1000 0b0010 &&
    gives (Alu.add16H 0xFFFF#16 0x0001#16) 0x0000 0b1011 &&
    gives (Alu.add16H 0x00FF#16 0x0001#16) 0x0100 0b0000 &&
    gives (Alu.add16H 0xF000#16 0x1000#16) 0x0000 0b1001 := by decide +kernel

theorem test_alu_bcdAdjust :
    gives (Alu.bcdAdjust 0x7D#8 false false false) 0x83 0b0000 &&
    gives (Alu.bcdAdjust 0x4B#8 true true false) 0x45 0b0100 &&
    gives (Alu.bcdAdjust 0x9A#8 false false false) 0x00 0b1001 &&
    gives (Alu.bcdAdjust 0x00#8 false false true) 0x60 0b0001 &&
    gives (Alu.bcdAdjust 0x0A#8 true false false) 0x0A 0b0100 &&
    gives (Alu.bcdAdjust 0x99#8 false false false) 0x99 0b0000 := by decide +kernel

theorem test_alu_and :
    gives (Alu.and 0x5A#8 0x3F#8) 0x1A 0b0010 &&
    gives (Alu.and 0x5A#8 0x00#8) 0x00 0b1010 &&
    gives (Alu.and 0xFF#8 0xFF#8) 0xFF 0b0010 := by decide +kernel

theorem test_alu_or :
    gives (Alu.or 0x5A#8 0x03#8) 0x5B 0b0000 &&
    gives (Alu.or 0x00#8 0x00#8) 0x00 0b1000 := by decide +kernel

theorem test_alu_xor :
    gives (Alu.xor 0xFF#8 0x0F#8) 0xF0 0b0000 &&
    gives (Alu.xor 0xFF#8 0xFF#8) 0x00 0b1000 := by decide +kernel

theorem test_alu_shiftLeft :
    gives (Alu.shiftLeft 0x80#8) 0x00 0b1001 &&
    gives (Alu.shiftLeft 0xFF#8) 0xFE 0b0001 &&
    gives (Alu.shiftLeft 0x01#8) 0x02 0b0000 &&
    gives (Alu.shiftLeft 0x00#8) 0x00 0b1000 := by decide +kernel

theorem test_alu_shiftRightA :
    gives (Alu.shiftRightA 0x8A#8) 0xC5 0b0000 &&
    gives (Alu.shiftRightA 0x01#8) 0x00 0b1001 &&
    gives (Alu.shiftRightA 0x80#8) 0xC0 0b0000 &&
    gives (Alu.shiftRightA 0xFF#8) 0xFF 0b0001 := by decide +kernel

theorem test_alu_shiftRightL :
    gives (Alu.shiftRightL 0x01#8) 0x00 0b1001 &&
    gives (Alu.shiftRightL 0xFF#8) 0x7F 0b0001 &&
    gives (Alu.shiftRightL 0x80#8) 0x40 0b0000 &&
    gives (Alu.shiftRightL 0x00#8) 0x00 0b1000 := by decide +kernel

theorem test_alu_rotate :
    gives (Alu.rotate .left 0x85#8) 0x0B 0b0001 &&
    gives (Alu.rotate .right 0x3B#8) 0x9D 0b0001 &&
    gives (Alu.rotate .left 0x00#8) 0x00 0b1000 &&
    gives (Alu.rotate .right 0x01#8) 0x80 0b0001 &&
    gives (Alu.rotate .left 0xFF#8) 0xFF 0b0001 := by decide +kernel

theorem test_alu_rotateC :
    gives (Alu.rotateC .left 0x95#8 true) 0x2B 0b0001 &&
    gives (Alu.rotateC .right 0x81#8 false) 0x40 0b0001 &&
    gives (Alu.rotateC .left 0x80#8 false) 0x00 0b1001 &&
    gives (Alu.rotateC .right 0x00#8 true) 0x80 0b0000 &&
    gives (Alu.rotateC .left 0x00#8 true) 0x01 0b0000 &&
    gives (Alu.rotateC .right 0x01#8 false) 0x00 0b1001 := by decide +kernel

theorem test_alu_swap :
    gives (Alu.swap 0xF0#8) 0x0F 0b0000 &&
    gives (Alu.swap 0xA5#8) 0x5A 0b0000 &&
    gives (Alu.swap 0x00#8) 0x00 0b1000 &&
    gives (Alu.swap 0x01#8) 0x10 0b0000 := by decide +kernel

theorem test_alu_testBit :
    gives (Alu.testBit 0x80#8 7) 0x80 0b0010 &&
    gives (Alu.testBit 0xEF#8 4) 0x00 0b1010 &&
    gives (Alu.testBit 0x01#8 0) 0x01 0b0010 &&
    gives (Alu.testBit 0x00#8 3) 0x00 0b1010 &&
    gives (Alu.testBit 0xFF#8 7) 0x80 0b0010 := by decide +kernel

/-! ## Instructions (B2 to B9), one step each on FLAT -/

/-- One part of the state set. -/
inductive Put where
  | reg (r : Reg8) (v : Byte)
  | flags (v : Byte)
  | pair (p : Pair) (v : Word)
  | pc (v : Word)
  | ime (v : Bool)
  | ie (v : Byte)
  | iflag (v : Byte)
  | byte (a : Word) (v : Byte)

/-- The state with it set. -/
def Put.into (s : State) : Put → State
  | .reg r v => s.setReg r v
  | .flags v => { s with regs := { s.regs with f := v } }
  | .pair p v => s.setPair p v
  | .pc v => { s with pc := v }
  | .ime v => { s with ime := v }
  | .ie v => { s with ie := v }
  | .iflag v => { s with iflag := v }
  | .byte a v => s.busWrite a v

/-- The launch state of a vector: reset on FLAT, PC and the bytes at `pc`, then what the vector lists. -/
def launch (pc : Nat) (bytes : List Byte) (before : List Put) : State :=
  before.foldl Put.into
    (bytes.zipIdx.foldl (fun s b => s.busWrite (BitVec.ofNat 16 (pc + b.2)) b.1)
      { State.resetOn flatPlatform [] with pc := BitVec.ofNat 16 pc })

/-- One step gives exactly the changes listed, the flags ZNHC and the marker; the timer's count and the cycle apart. -/
def runs (pc : Nat) (bytes : List Byte) (before after : List Put) (f : Nat) (next : Sched) : Bool :=
  let s := launch pc bytes before
  match step s with
  | .next t =>
    let e := after.foldl Put.into s
    t == { e with regs := { e.regs with f := BitVec.ofNat 8 (16 * f) }, cpuNext := next, timer := t.timer, cycle := 1 }
  | _ => false

/-- One step of the state ends in this fault. -/
def stopsWith (s : State) (f : Fault) : Bool :=
  match step s with
  | .fault g => g == f
  | _ => false

theorem test_B2_LD_0 :
    runs 0x100 [0x41#8] [.reg .C 0x5A#8] [.reg .B 0x5A#8, .pc 0x0101#16] 0b0000 (.activeAt 1) &&
    runs 0x100 [0x7F#8] [.reg .A 0x77#8] [.pc 0x0101#16] 0b0000 (.activeAt 1) &&
    runs 0x100 [0x65#8] [.pair .HL 0x12AB#16] [.reg .H 0xAB#8, .pc 0x0101#16] 0b0000 (.activeAt 1) &&
    runs 0x100 [0x16#8, 0x9C#8] [] [.reg .D 0x9C#8, .pc 0x0102#16] 0b0000 (.activeAt 2) &&
    runs 0x100 [0x7E#8] [.pair .HL 0xC123#16, .byte 0xC123#16 0xEE#8]
      [.reg .A 0xEE#8, .pc 0x0101#16] 0b0000 (.activeAt 2) &&
    runs 0x100 [0x73#8] [.pair .HL 0xC200#16, .reg .E 0x3D#8]
      [.byte 0xC200#16 0x3D#8, .pc 0x0101#16] 0b0000 (.activeAt 2) &&
    runs 0x100 [0x74#8] [.pair .HL 0xC234#16] [.byte 0xC234#16 0xC2#8, .pc 0x0101#16] 0b0000 (.activeAt 2) &&
    runs 0x100 [0x36#8, 0x42#8] [.pair .HL 0xD000#16]
      [.byte 0xD000#16 0x42#8, .pc 0x0102#16] 0b0000 (.activeAt 3) := by decide +kernel

theorem test_B2_LD_1 :
    runs 0x100 [0x0A#8] [.pair .BC 0xC010#16, .byte 0xC010#16 0x99#8]
      [.reg .A 0x99#8, .pc 0x0101#16] 0b0000 (.activeAt 2) &&
    runs 0x100 [0x1A#8] [.pair .DE 0xC011#16, .byte 0xC011#16 0x98#8]
      [.reg .A 0x98#8, .pc 0x0101#16] 0b0000 (.activeAt 2) &&
    runs 0x100 [0x02#8] [.pair .BC 0xC012#16, .reg .A 0x11#8]
      [.byte 0xC012#16 0x11#8, .pc 0x0101#16] 0b0000 (.activeAt 2) &&
    runs 0x100 [0x12#8] [.pair .DE 0xC013#16, .reg .A 0x22#8]
      [.byte 0xC013#16 0x22#8, .pc 0x0101#16] 0b0000 (.activeAt 2) &&
    runs 0x100 [0x22#8] [.pair .HL 0xC0FF#16, .reg .A 0x33#8]
      [.reg .H 0xC1#8, .reg .L 0x00#8, .byte 0xC0FF#16 0x33#8, .pc 0x0101#16] 0b0000 (.activeAt 2) &&
    runs 0x100 [0x2A#8] [.pair .HL 0xFFFF#16, .ie 0x1F#8]
      [.reg .A 0x1F#8, .reg .H 0x00#8, .reg .L 0x00#8, .pc 0x0101#16] 0b0000 (.activeAt 2) &&
    runs 0x100 [0x32#8] [.pair .HL 0x0000#16, .reg .A 0x44#8]
      [.reg .H 0xFF#8, .reg .L 0xFF#8, .byte 0x0000#16 0x44#8, .pc 0x0101#16] 0b0000 (.activeAt 2) &&
    runs 0x100 [0x3A#8] [.pair .HL 0xC100#16, .byte 0xC100#16 0x55#8]
      [.reg .A 0x55#8, .reg .H 0xC0#8, .reg .L 0xFF#8, .pc 0x0101#16] 0b0000 (.activeAt 2) := by decide +kernel

theorem test_B2_LD_2 :
    runs 0x100 [0xE2#8] [.reg .C 0x82#8, .reg .A 0x68#8] [.byte 0xFF82#16 0x68#8, .pc 0x0101#16] 0b0000 (.activeAt 2) &&
    runs 0x100 [0xF2#8] [.reg .C 0x83#8, .byte 0xFF83#16 0x69#8] [.reg .A 0x69#8, .pc 0x0101#16] 0b0000 (.activeAt 2) &&
    runs 0x100 [0xEA#8, 0x45#8, 0xC3#8] [.reg .A 0x6A#8] [.byte 0xC345#16 0x6A#8, .pc 0x0103#16] 0b0000 (.activeAt 4) &&
    runs 0x100 [0xFA#8, 0x46#8, 0xC3#8] [.byte 0xC346#16 0x6B#8]
      [.reg .A 0x6B#8, .pc 0x0103#16] 0b0000 (.activeAt 4) := by decide +kernel

theorem test_B2_LDH :
    runs 0x100 [0xE0#8, 0x80#8] [.reg .A 0x66#8] [.byte 0xFF80#16 0x66#8, .pc 0x0102#16] 0b0000 (.activeAt 3) &&
    runs 0x100 [0xF0#8, 0x81#8] [.byte 0xFF81#16 0x67#8] [.reg .A 0x67#8, .pc 0x0102#16] 0b0000 (.activeAt 3) &&
    runs 0x100 [0xF0#8, 0x0F#8] [.iflag 0xE5#8]
      [.reg .A 0xE5#8, .pc 0x0102#16] 0b0000 (.activeAt 3) := by decide +kernel

theorem test_B3_LD_0 :
    runs 0x100 [0x01#8, 0x34#8, 0x12#8] [] [.reg .B 0x12#8, .reg .C 0x34#8, .pc 0x0103#16] 0b0000 (.activeAt 3) &&
    runs 0x100 [0x11#8, 0xFE#8, 0xFF#8] [] [.reg .D 0xFF#8, .reg .E 0xFE#8, .pc 0x0103#16] 0b0000 (.activeAt 3) &&
    runs 0x100 [0x21#8, 0x00#8, 0x80#8] [] [.reg .H 0x80#8, .pc 0x0103#16] 0b0000 (.activeAt 3) &&
    runs 0x100 [0x31#8, 0xFE#8, 0xFF#8] [] [.pair .SP 0xFFFE#16, .pc 0x0103#16] 0b0000 (.activeAt 3) &&
    runs 0x100 [0x08#8, 0x00#8, 0xC0#8] [.pair .SP 0xBEEF#16]
      [.byte 0xC000#16 0xEF#8, .byte 0xC001#16 0xBE#8, .pc 0x0103#16] 0b0000 (.activeAt 5) &&
    runs 0x100 [0x08#8, 0xFF#8, 0xFF#8] [.pair .SP 0x1203#16]
      [.byte 0x0000#16 0x12#8, .byte 0xFFFF#16 0x03#8, .pc 0x0103#16] 0b0000 (.activeAt 5) &&
    runs 0x100 [0xF9#8] [.pair .HL 0xD123#16] [.pair .SP 0xD123#16, .pc 0x0101#16] 0b0000 (.activeAt 2) &&
    runs 0x100 [0xF8#8, 0x02#8] [.pair .SP 0xFFFE#16, .flags 0xF0#8, .pair .HL 0x5555#16]
      [.flags 0x30#8, .reg .H 0x00#8, .reg .L 0x00#8, .pc 0x0102#16] 0b0011 (.activeAt 3) := by decide +kernel

theorem test_B3_LD_1 :
    runs 0x100 [0xF8#8, 0xFF#8] [.pair .SP 0x0000#16]
      [.reg .H 0xFF#8, .reg .L 0xFF#8, .pc 0x0102#16] 0b0000 (.activeAt 3) &&
    runs 0x100 [0xF8#8, 0xFF#8] [.pair .SP 0x0001#16, .pair .HL 0x5555#16]
      [.flags 0x30#8, .reg .H 0x00#8, .reg .L 0x00#8, .pc 0x0102#16] 0b0011 (.activeAt 3) &&
    runs 0x100 [0xF8#8, 0x08#8] [.pair .SP 0x00F8#16]
      [.flags 0x30#8, .reg .H 0x01#8, .pc 0x0102#16] 0b0011 (.activeAt 3) := by decide +kernel

theorem test_B3_PUSH :
    runs 0x100 [0xC5#8] [.pair .BC 0x1234#16, .pair .SP 0xD000#16]
      [.pair .SP 0xCFFE#16, .byte 0xCFFE#16 0x34#8, .byte 0xCFFF#16 0x12#8, .pc 0x0101#16] 0b0000 (.activeAt 4) &&
    runs 0x100 [0xF5#8] [.reg .A 0x9A#8, .flags 0xB0#8, .pair .SP 0xD000#16]
      [.pair .SP 0xCFFE#16, .byte 0xCFFE#16 0xB0#8, .byte 0xCFFF#16 0x9A#8, .pc 0x0101#16] 0b1011 (.activeAt 4) &&
    runs 0x100 [0xE5#8] [.pair .HL 0xABCD#16, .pair .SP 0x0001#16]
      [.pair .SP 0xFFFF#16, .byte 0x0000#16 0xAB#8, .byte 0xFFFF#16 0xCD#8, .pc 0x0101#16] 0b0000 (.activeAt 4) :=
  by decide +kernel

theorem test_B3_POP :
    runs 0x100 [0xD1#8] [.pair .SP 0xCFFE#16, .byte 0xCFFE#16 0x78#8, .byte 0xCFFF#16 0x56#8]
      [.reg .D 0x56#8, .reg .E 0x78#8, .pair .SP 0xD000#16, .pc 0x0101#16] 0b0000 (.activeAt 3) &&
    runs 0x100 [0xF1#8] [.pair .SP 0xCFFE#16, .byte 0xCFFE#16 0xFF#8, .byte 0xCFFF#16 0x12#8]
      [.reg .A 0x12#8, .flags 0xF0#8, .pair .SP 0xD000#16, .pc 0x0101#16] 0b1111 (.activeAt 3) &&
    runs 0x100 [0xE1#8] [.pair .SP 0xFFFF#16, .ie 0x34#8, .byte 0x0000#16 0x12#8]
      [.reg .H 0x12#8, .reg .L 0x34#8, .pair .SP 0x0001#16, .pc 0x0101#16] 0b0000 (.activeAt 3) := by decide +kernel

theorem test_B4_ADD :
    runs 0x100 [0x80#8] [.reg .A 0x3A#8, .reg .B 0xC6#8]
      [.reg .A 0x00#8, .flags 0xB0#8, .pc 0x0101#16] 0b1011 (.activeAt 1) &&
    runs 0x100 [0x81#8] [.reg .A 0x0F#8, .reg .C 0x01#8, .flags 0xF0#8]
      [.reg .A 0x10#8, .flags 0x20#8, .pc 0x0101#16] 0b0010 (.activeAt 1) &&
    runs 0x100 [0x87#8] [.reg .A 0x80#8] [.reg .A 0x00#8, .flags 0x90#8, .pc 0x0101#16] 0b1001 (.activeAt 1) &&
    runs 0x100 [0x86#8] [.reg .A 0x01#8, .pair .HL 0xC000#16, .byte 0xC000#16 0x02#8]
      [.reg .A 0x03#8, .pc 0x0101#16] 0b0000 (.activeAt 2) &&
    runs 0x100 [0xC6#8, 0xFF#8] [.reg .A 0x01#8]
      [.reg .A 0x00#8, .flags 0xB0#8, .pc 0x0102#16] 0b1011 (.activeAt 2) := by decide +kernel

theorem test_B4_ADC :
    runs 0x100 [0x8A#8] [.reg .A 0x0F#8, .reg .D 0x00#8, .flags 0x10#8]
      [.reg .A 0x10#8, .flags 0x20#8, .pc 0x0101#16] 0b0010 (.activeAt 1) &&
    runs 0x100 [0x8B#8] [.reg .A 0xFF#8, .reg .E 0x00#8, .flags 0x10#8]
      [.reg .A 0x00#8, .flags 0xB0#8, .pc 0x0101#16] 0b1011 (.activeAt 1) &&
    runs 0x100 [0xCE#8, 0xFF#8] [.reg .A 0xFF#8, .flags 0x10#8] [.flags 0x30#8, .pc 0x0102#16] 0b0011 (.activeAt 2) &&
    runs 0x100 [0x8E#8] [.reg .A 0x10#8, .pair .HL 0xC000#16, .flags 0x00#8, .byte 0xC000#16 0x20#8]
      [.reg .A 0x30#8, .pc 0x0101#16] 0b0000 (.activeAt 2) := by decide +kernel

theorem test_B4_SUB :
    runs 0x100 [0x90#8] [.reg .A 0x10#8, .reg .B 0x01#8]
      [.reg .A 0x0F#8, .flags 0x60#8, .pc 0x0101#16] 0b0110 (.activeAt 1) &&
    runs 0x100 [0x97#8] [.reg .A 0x5C#8] [.reg .A 0x00#8, .flags 0xC0#8, .pc 0x0101#16] 0b1100 (.activeAt 1) &&
    runs 0x100 [0xD6#8, 0x20#8] [.reg .A 0x10#8] [.reg .A 0xF0#8, .flags 0x50#8, .pc 0x0102#16] 0b0101 (.activeAt 2) &&
    runs 0x100 [0x96#8] [.reg .A 0x00#8, .pair .HL 0xC000#16, .byte 0xC000#16 0x01#8]
      [.reg .A 0xFF#8, .flags 0x70#8, .pc 0x0101#16] 0b0111 (.activeAt 2) := by decide +kernel

theorem test_B4_SBC :
    runs 0x100 [0x99#8] [.reg .A 0x10#8, .reg .C 0x0F#8, .flags 0x10#8]
      [.reg .A 0x00#8, .flags 0xE0#8, .pc 0x0101#16] 0b1110 (.activeAt 1) &&
    runs 0x100 [0x9C#8] [.reg .A 0x00#8, .reg .H 0xFF#8, .flags 0x10#8]
      [.flags 0xF0#8, .pc 0x0101#16] 0b1111 (.activeAt 1) &&
    runs 0x100 [0xDE#8, 0x00#8] [.reg .A 0x00#8, .flags 0x10#8]
      [.reg .A 0xFF#8, .flags 0x70#8, .pc 0x0102#16] 0b0111 (.activeAt 2) &&
    runs 0x100 [0x9E#8] [.reg .A 0x3B#8, .pair .HL 0xC000#16, .flags 0x10#8, .byte 0xC000#16 0x4F#8]
      [.reg .A 0xEB#8, .flags 0x70#8, .pc 0x0101#16] 0b0111 (.activeAt 2) := by decide +kernel

theorem test_B4_AND :
    runs 0x100 [0xA5#8] [.reg .A 0x5A#8, .reg .L 0x3F#8, .flags 0x10#8]
      [.reg .A 0x1A#8, .flags 0x20#8, .pc 0x0101#16] 0b0010 (.activeAt 1) &&
    runs 0x100 [0xE6#8, 0x0F#8] [.reg .A 0xF0#8] [.reg .A 0x00#8, .flags 0xA0#8, .pc 0x0102#16] 0b1010 (.activeAt 2) &&
    runs 0x100 [0xA6#8] [.reg .A 0xFF#8, .pair .HL 0xC000#16, .byte 0xC000#16 0x81#8]
      [.reg .A 0x81#8, .flags 0x20#8, .pc 0x0101#16] 0b0010 (.activeAt 2) := by decide +kernel

theorem test_B4_XOR :
    runs 0x100 [0xAF#8] [.reg .A 0x77#8, .flags 0xF0#8]
      [.reg .A 0x00#8, .flags 0x80#8, .pc 0x0101#16] 0b1000 (.activeAt 1) &&
    runs 0x100 [0xA8#8] [.reg .A 0xFF#8, .reg .B 0x0F#8] [.reg .A 0xF0#8, .pc 0x0101#16] 0b0000 (.activeAt 1) &&
    runs 0x100 [0xEE#8, 0xFF#8] [.reg .A 0xFF#8] [.reg .A 0x00#8, .flags 0x80#8, .pc 0x0102#16] 0b1000 (.activeAt 2) &&
    runs 0x100 [0xAE#8] [.reg .A 0x00#8, .pair .HL 0xC000#16, .byte 0xC000#16 0x8A#8]
      [.reg .A 0x8A#8, .pc 0x0101#16] 0b0000 (.activeAt 2) := by decide +kernel

theorem test_B4_OR :
    runs 0x100 [0xB1#8] [.reg .A 0x00#8, .reg .C 0x00#8, .flags 0xF0#8]
      [.flags 0x80#8, .pc 0x0101#16] 0b1000 (.activeAt 1) &&
    runs 0x100 [0xF6#8, 0x03#8] [.reg .A 0x5A#8] [.reg .A 0x5B#8, .pc 0x0102#16] 0b0000 (.activeAt 2) &&
    runs 0x100 [0xB6#8] [.reg .A 0x40#8, .pair .HL 0xC000#16, .byte 0xC000#16 0x0F#8]
      [.reg .A 0x4F#8, .pc 0x0101#16] 0b0000 (.activeAt 2) := by decide +kernel

theorem test_B4_CP :
    runs 0x100 [0xB8#8] [.reg .A 0x3C#8, .reg .B 0x2F#8]
      [.reg .A 0x3C#8, .flags 0x60#8, .pc 0x0101#16] 0b0110 (.activeAt 1) &&
    runs 0x100 [0xFE#8, 0x3C#8] [.reg .A 0x3C#8] [.reg .A 0x3C#8, .flags 0xC0#8, .pc 0x0102#16] 0b1100 (.activeAt 2) &&
    runs 0x100 [0xBE#8] [.reg .A 0x3C#8, .pair .HL 0xC000#16, .byte 0xC000#16 0x40#8]
      [.reg .A 0x3C#8, .flags 0x50#8, .pc 0x0101#16] 0b0101 (.activeAt 2) := by decide +kernel

theorem test_B4_INC :
    runs 0x100 [0x04#8] [.reg .B 0xFF#8, .flags 0x10#8]
      [.flags 0xB0#8, .reg .B 0x00#8, .pc 0x0101#16] 0b1011 (.activeAt 1) &&
    runs 0x100 [0x3C#8] [.reg .A 0x0F#8] [.reg .A 0x10#8, .flags 0x20#8, .pc 0x0101#16] 0b0010 (.activeAt 1) &&
    runs 0x100 [0x2C#8] [.reg .L 0x7F#8, .flags 0xE0#8]
      [.flags 0x20#8, .reg .L 0x80#8, .pc 0x0101#16] 0b0010 (.activeAt 1) &&
    runs 0x100 [0x34#8] [.pair .HL 0xC000#16, .flags 0x10#8, .byte 0xC000#16 0xFF#8]
      [.flags 0xB0#8, .byte 0xC000#16 0x00#8, .pc 0x0101#16] 0b1011 (.activeAt 3) := by decide +kernel

theorem test_B4_DEC :
    runs 0x100 [0x0D#8] [.reg .C 0x00#8] [.flags 0x60#8, .reg .C 0xFF#8, .pc 0x0101#16] 0b0110 (.activeAt 1) &&
    runs 0x100 [0x3D#8] [.reg .A 0x01#8, .flags 0x10#8]
      [.reg .A 0x00#8, .flags 0xD0#8, .pc 0x0101#16] 0b1101 (.activeAt 1) &&
    runs 0x100 [0x25#8] [.reg .H 0x10#8] [.flags 0x60#8, .reg .H 0x0F#8, .pc 0x0101#16] 0b0110 (.activeAt 1) &&
    runs 0x100 [0x35#8] [.pair .HL 0xC000#16, .byte 0xC000#16 0x80#8]
      [.flags 0x60#8, .byte 0xC000#16 0x7F#8, .pc 0x0101#16] 0b0110 (.activeAt 3) := by decide +kernel

theorem test_B4_DAA :
    runs 0x100 [0x27#8] [.reg .A 0x7D#8, .flags 0x00#8] [.reg .A 0x83#8, .pc 0x0101#16] 0b0000 (.activeAt 1) &&
    runs 0x100 [0x27#8] [.reg .A 0x9A#8, .flags 0x00#8]
      [.reg .A 0x00#8, .flags 0x90#8, .pc 0x0101#16] 0b1001 (.activeAt 1) := by decide +kernel

theorem test_B4_CPL :
    runs 0x100 [0x2F#8] [.reg .A 0x35#8, .flags 0x90#8]
      [.reg .A 0xCA#8, .flags 0xF0#8, .pc 0x0101#16] 0b1111 (.activeAt 1) := by decide +kernel

theorem test_B4_SCF :
    runs 0x100 [0x37#8] [.flags 0xE0#8] [.flags 0x90#8, .pc 0x0101#16] 0b1001 (.activeAt 1) := by decide +kernel

theorem test_B4_CCF :
    runs 0x100 [0x3F#8] [.flags 0xF0#8] [.flags 0x80#8, .pc 0x0101#16] 0b1000 (.activeAt 1) &&
    runs 0x100 [0x3F#8] [.flags 0x00#8] [.flags 0x10#8, .pc 0x0101#16] 0b0001 (.activeAt 1) := by decide +kernel

theorem test_B5_ADD :
    runs 0x100 [0x09#8] [.pair .HL 0x8A23#16, .pair .BC 0x0605#16, .flags 0x80#8]
      [.flags 0xA0#8, .reg .H 0x90#8, .reg .L 0x28#8, .pc 0x0101#16] 0b1010 (.activeAt 2) &&
    runs 0x100 [0x29#8] [.pair .HL 0x8A23#16, .flags 0x00#8]
      [.flags 0x30#8, .reg .H 0x14#8, .reg .L 0x46#8, .pc 0x0101#16] 0b0011 (.activeAt 2) &&
    runs 0x100 [0x19#8] [.pair .HL 0xFFFF#16, .pair .DE 0x0001#16, .flags 0x40#8]
      [.flags 0x30#8, .reg .H 0x00#8, .reg .L 0x00#8, .pc 0x0101#16] 0b0011 (.activeAt 2) &&
    runs 0x100 [0x39#8] [.pair .HL 0x00FF#16, .pair .SP 0x0001#16, .flags 0xF0#8]
      [.flags 0x80#8, .reg .H 0x01#8, .reg .L 0x00#8, .pc 0x0101#16] 0b1000 (.activeAt 2) &&
    runs 0x100 [0x09#8] [.pair .HL 0x0FFF#16, .pair .BC 0x0001#16]
      [.flags 0x20#8, .reg .H 0x10#8, .reg .L 0x00#8, .pc 0x0101#16] 0b0010 (.activeAt 2) &&
    runs 0x100 [0xE8#8, 0x02#8] [.pair .SP 0xFFF8#16, .flags 0xF0#8]
      [.flags 0x00#8, .pair .SP 0xFFFA#16, .pc 0x0102#16] 0b0000 (.activeAt 4) &&
    runs 0x100 [0xE8#8, 0xFF#8] [.pair .SP 0x0000#16]
      [.pair .SP 0xFFFF#16, .pc 0x0102#16] 0b0000 (.activeAt 4) := by decide +kernel

theorem test_B5_INC :
    runs 0x100 [0x03#8] [.pair .BC 0xFFFF#16, .flags 0xF0#8]
      [.reg .B 0x00#8, .reg .C 0x00#8, .pc 0x0101#16] 0b1111 (.activeAt 2) &&
    runs 0x100 [0x13#8] [.pair .DE 0x00FF#16] [.reg .D 0x01#8, .reg .E 0x00#8, .pc 0x0101#16] 0b0000 (.activeAt 2) &&
    runs 0x100 [0x23#8] [.pair .HL 0x0FFF#16] [.reg .H 0x10#8, .reg .L 0x00#8, .pc 0x0101#16] 0b0000 (.activeAt 2) &&
    runs 0x100 [0x33#8] [.pair .SP 0xFFFF#16]
      [.pair .SP 0x0000#16, .pc 0x0101#16] 0b0000 (.activeAt 2) := by decide +kernel

theorem test_B5_DEC :
    runs 0x100 [0x0B#8] [.pair .BC 0x0000#16, .flags 0x00#8]
      [.reg .B 0xFF#8, .reg .C 0xFF#8, .pc 0x0101#16] 0b0000 (.activeAt 2) &&
    runs 0x100 [0x1B#8] [.pair .DE 0x0100#16] [.reg .D 0x00#8, .reg .E 0xFF#8, .pc 0x0101#16] 0b0000 (.activeAt 2) &&
    runs 0x100 [0x2B#8] [.pair .HL 0x0001#16] [.reg .L 0x00#8, .pc 0x0101#16] 0b0000 (.activeAt 2) &&
    runs 0x100 [0x3B#8] [.pair .SP 0x0000#16]
      [.pair .SP 0xFFFF#16, .pc 0x0101#16] 0b0000 (.activeAt 2) := by decide +kernel

theorem test_B6_RLCA :
    runs 0x100 [0x07#8] [.reg .A 0x85#8, .flags 0xE0#8]
      [.reg .A 0x0B#8, .flags 0x10#8, .pc 0x0101#16] 0b0001 (.activeAt 1) &&
    runs 0x100 [0x07#8] [.reg .A 0x00#8, .flags 0xF0#8]
      [.flags 0x00#8, .pc 0x0101#16] 0b0000 (.activeAt 1) := by decide +kernel

theorem test_B6_RRCA :
    runs 0x100 [0x0F#8] [.reg .A 0x3B#8]
      [.reg .A 0x9D#8, .flags 0x10#8, .pc 0x0101#16] 0b0001 (.activeAt 1) := by decide +kernel

theorem test_B6_RLA :
    runs 0x100 [0x17#8] [.reg .A 0x95#8, .flags 0x10#8] [.reg .A 0x2B#8, .pc 0x0101#16] 0b0001 (.activeAt 1) &&
    runs 0x100 [0x17#8] [.reg .A 0x80#8, .flags 0x00#8]
      [.reg .A 0x00#8, .flags 0x10#8, .pc 0x0101#16] 0b0001 (.activeAt 1) := by decide +kernel

theorem test_B6_RRA :
    runs 0x100 [0x1F#8] [.reg .A 0x81#8, .flags 0x00#8]
      [.reg .A 0x40#8, .flags 0x10#8, .pc 0x0101#16] 0b0001 (.activeAt 1) &&
    runs 0x100 [0x1F#8] [.reg .A 0x00#8, .flags 0x10#8]
      [.reg .A 0x80#8, .flags 0x00#8, .pc 0x0101#16] 0b0000 (.activeAt 1) := by decide +kernel

theorem test_B6_RLC :
    runs 0x100 [0xCB#8, 0x00#8] [.reg .B 0x85#8] [.flags 0x10#8, .reg .B 0x0B#8, .pc 0x0102#16] 0b0001 (.activeAt 2) &&
    runs 0x100 [0xCB#8, 0x06#8] [.pair .HL 0xC000#16, .byte 0xC000#16 0x00#8]
      [.flags 0x80#8, .pc 0x0102#16] 0b1000 (.activeAt 4) := by decide +kernel

theorem test_B6_RRC :
    runs 0x100 [0xCB#8, 0x09#8] [.reg .C 0x01#8] [.flags 0x10#8, .reg .C 0x80#8, .pc 0x0102#16] 0b0001 (.activeAt 2) &&
    runs 0x100 [0xCB#8, 0x0E#8] [.pair .HL 0xC000#16, .byte 0xC000#16 0x02#8]
      [.byte 0xC000#16 0x01#8, .pc 0x0102#16] 0b0000 (.activeAt 4) := by decide +kernel

theorem test_B6_RL :
    runs 0x100 [0xCB#8, 0x12#8] [.reg .D 0x80#8, .flags 0x00#8]
      [.flags 0x90#8, .reg .D 0x00#8, .pc 0x0102#16] 0b1001 (.activeAt 2) &&
    runs 0x100 [0xCB#8, 0x16#8] [.pair .HL 0xC000#16, .flags 0x10#8, .byte 0xC000#16 0x11#8]
      [.flags 0x00#8, .byte 0xC000#16 0x23#8, .pc 0x0102#16] 0b0000 (.activeAt 4) := by decide +kernel

theorem test_B6_RR :
    runs 0x100 [0xCB#8, 0x1B#8] [.reg .E 0x01#8, .flags 0x00#8]
      [.flags 0x90#8, .reg .E 0x00#8, .pc 0x0102#16] 0b1001 (.activeAt 2) &&
    runs 0x100 [0xCB#8, 0x1F#8] [.reg .A 0x00#8, .flags 0x10#8]
      [.reg .A 0x80#8, .flags 0x00#8, .pc 0x0102#16] 0b0000 (.activeAt 2) &&
    runs 0x100 [0xCB#8, 0x1E#8] [.pair .HL 0xC000#16, .flags 0x10#8, .byte 0xC000#16 0x8A#8]
      [.flags 0x00#8, .byte 0xC000#16 0xC5#8, .pc 0x0102#16] 0b0000 (.activeAt 4) := by decide +kernel

theorem test_B6_SLA :
    runs 0x100 [0xCB#8, 0x24#8] [.reg .H 0x80#8, .flags 0x00#8]
      [.flags 0x90#8, .reg .H 0x00#8, .pc 0x0102#16] 0b1001 (.activeAt 2) &&
    runs 0x100 [0xCB#8, 0x26#8] [.pair .HL 0xC000#16, .byte 0xC000#16 0xFF#8]
      [.flags 0x10#8, .byte 0xC000#16 0xFE#8, .pc 0x0102#16] 0b0001 (.activeAt 4) := by decide +kernel

theorem test_B6_SRA :
    runs 0x100 [0xCB#8, 0x2D#8] [.reg .L 0x8A#8] [.reg .L 0xC5#8, .pc 0x0102#16] 0b0000 (.activeAt 2) &&
    runs 0x100 [0xCB#8, 0x2F#8] [.reg .A 0x01#8] [.reg .A 0x00#8, .flags 0x90#8, .pc 0x0102#16] 0b1001 (.activeAt 2) &&
    runs 0x100 [0xCB#8, 0x2E#8] [.pair .HL 0xC000#16, .byte 0xC000#16 0x81#8]
      [.flags 0x10#8, .byte 0xC000#16 0xC0#8, .pc 0x0102#16] 0b0001 (.activeAt 4) := by decide +kernel

theorem test_B6_SWAP :
    runs 0x100 [0xCB#8, 0x37#8] [.reg .A 0xF1#8, .flags 0xF0#8]
      [.reg .A 0x1F#8, .flags 0x00#8, .pc 0x0102#16] 0b0000 (.activeAt 2) &&
    runs 0x100 [0xCB#8, 0x30#8] [.reg .B 0x00#8, .flags 0x10#8] [.flags 0x80#8, .pc 0x0102#16] 0b1000 (.activeAt 2) &&
    runs 0x100 [0xCB#8, 0x36#8] [.pair .HL 0xC000#16, .byte 0xC000#16 0x5A#8]
      [.byte 0xC000#16 0xA5#8, .pc 0x0102#16] 0b0000 (.activeAt 4) := by decide +kernel

theorem test_B6_SRL :
    runs 0x100 [0xCB#8, 0x38#8] [.reg .B 0x01#8] [.flags 0x90#8, .reg .B 0x00#8, .pc 0x0102#16] 0b1001 (.activeAt 2) &&
    runs 0x100 [0xCB#8, 0x3F#8] [.reg .A 0xFF#8] [.reg .A 0x7F#8, .flags 0x10#8, .pc 0x0102#16] 0b0001 (.activeAt 2) &&
    runs 0x100 [0xCB#8, 0x3E#8] [.pair .HL 0xC000#16, .byte 0xC000#16 0x80#8]
      [.byte 0xC000#16 0x40#8, .pc 0x0102#16] 0b0000 (.activeAt 4) := by decide +kernel

theorem test_B6_BIT :
    runs 0x100 [0xCB#8, 0x7C#8] [.reg .H 0x80#8, .flags 0x50#8]
      [.flags 0x30#8, .reg .H 0x80#8, .pc 0x0102#16] 0b0011 (.activeAt 2) &&
    runs 0x100 [0xCB#8, 0x7C#8] [.reg .H 0x7F#8, .flags 0x00#8]
      [.flags 0xA0#8, .reg .H 0x7F#8, .pc 0x0102#16] 0b1010 (.activeAt 2) &&
    runs 0x100 [0xCB#8, 0x46#8] [.pair .HL 0xC000#16, .flags 0x10#8, .byte 0xC000#16 0xFE#8]
      [.flags 0xB0#8, .pc 0x0102#16] 0b1011 (.activeAt 3) &&
    runs 0x100 [0xCB#8, 0x5F#8] [.reg .A 0x08#8]
      [.reg .A 0x08#8, .flags 0x20#8, .pc 0x0102#16] 0b0010 (.activeAt 2) := by decide +kernel

theorem test_B6_RES :
    runs 0x100 [0xCB#8, 0x87#8] [.reg .A 0xFF#8, .flags 0xF0#8] [.reg .A 0xFE#8, .pc 0x0102#16] 0b1111 (.activeAt 2) &&
    runs 0x100 [0xCB#8, 0xBE#8] [.pair .HL 0xC000#16, .byte 0xC000#16 0xFF#8]
      [.byte 0xC000#16 0x7F#8, .pc 0x0102#16] 0b0000 (.activeAt 4) &&
    runs 0x100 [0xCB#8, 0x9B#8] [.reg .E 0x00#8]
      [.reg .E 0x00#8, .pc 0x0102#16] 0b0000 (.activeAt 2) := by decide +kernel

theorem test_B6_SET :
    runs 0x100 [0xCB#8, 0xF8#8] [.reg .B 0x00#8, .flags 0xF0#8] [.reg .B 0x80#8, .pc 0x0102#16] 0b1111 (.activeAt 2) &&
    runs 0x100 [0xCB#8, 0xC6#8] [.pair .HL 0xC000#16, .byte 0xC000#16 0x80#8]
      [.byte 0xC000#16 0x81#8, .pc 0x0102#16] 0b0000 (.activeAt 4) &&
    runs 0x100 [0xCB#8, 0xE5#8] [.reg .L 0x10#8]
      [.reg .L 0x10#8, .pc 0x0102#16] 0b0000 (.activeAt 2) := by decide +kernel

theorem test_B7_JP :
    runs 0x100 [0xC3#8, 0x00#8, 0x80#8] [] [.pc 0x8000#16] 0b0000 (.activeAt 4) &&
    runs 0x100 [0xC2#8, 0x00#8, 0x80#8] [.flags 0x00#8] [.pc 0x8000#16] 0b0000 (.activeAt 4) &&
    runs 0x100 [0xC2#8, 0x00#8, 0x80#8] [.flags 0x80#8] [.pc 0x0103#16] 0b1000 (.activeAt 3) &&
    runs 0x100 [0xCA#8, 0x00#8, 0x80#8] [.flags 0x80#8] [.pc 0x8000#16] 0b1000 (.activeAt 4) &&
    runs 0x100 [0xD2#8, 0x00#8, 0x80#8] [.flags 0x10#8] [.pc 0x0103#16] 0b0001 (.activeAt 3) &&
    runs 0x100 [0xDA#8, 0x00#8, 0x80#8] [.flags 0x10#8] [.pc 0x8000#16] 0b0001 (.activeAt 4) &&
    runs 0x100 [0xE9#8] [.pair .HL 0xC123#16] [.pc 0xC123#16] 0b0000 (.activeAt 1) := by decide +kernel

theorem test_B7_JR :
    runs 0x100 [0x18#8, 0x05#8] [] [.pc 0x0107#16] 0b0000 (.activeAt 3) &&
    runs 0x100 [0x18#8, 0xFE#8] [] [.pc 0x0100#16] 0b0000 (.activeAt 3) &&
    runs 0x100 [0x20#8, 0xFB#8] [.flags 0x00#8] [.pc 0x00FD#16] 0b0000 (.activeAt 3) &&
    runs 0x100 [0x20#8, 0xFB#8] [.flags 0x80#8] [.pc 0x0102#16] 0b1000 (.activeAt 2) &&
    runs 0x100 [0x28#8, 0x01#8] [.flags 0x80#8] [.pc 0x0103#16] 0b1000 (.activeAt 3) &&
    runs 0x100 [0x30#8, 0x01#8] [.flags 0x10#8] [.pc 0x0102#16] 0b0001 (.activeAt 2) &&
    runs 0x100 [0x38#8, 0x01#8] [.flags 0x10#8] [.pc 0x0103#16] 0b0001 (.activeAt 3) := by decide +kernel

theorem test_B7_CALL :
    runs 0x100 [0xCD#8, 0x34#8, 0x12#8] [.pair .SP 0xD000#16]
      [.pair .SP 0xCFFE#16, .byte 0xCFFE#16 0x03#8, .byte 0xCFFF#16 0x01#8, .pc 0x1234#16] 0b0000 (.activeAt 6) &&
    runs 0x100 [0xCC#8, 0x34#8, 0x12#8] [.pair .SP 0xD000#16, .flags 0x80#8]
      [.pair .SP 0xCFFE#16, .byte 0xCFFE#16 0x03#8, .byte 0xCFFF#16 0x01#8, .pc 0x1234#16] 0b1000 (.activeAt 6) &&
    runs 0x100 [0xCC#8, 0x34#8, 0x12#8] [.pair .SP 0xD000#16, .flags 0x00#8] [.pc 0x0103#16] 0b0000 (.activeAt 3) &&
    runs 0x100 [0xD4#8, 0x34#8, 0x12#8] [.pair .SP 0xD000#16, .flags 0x00#8]
      [.pair .SP 0xCFFE#16, .byte 0xCFFE#16 0x03#8, .byte 0xCFFF#16 0x01#8, .pc 0x1234#16] 0b0000 (.activeAt 6) &&
    runs 0x100 [0xDC#8, 0x34#8, 0x12#8] [.pair .SP 0xD000#16, .flags 0x00#8] [.pc 0x0103#16] 0b0000 (.activeAt 3) &&
    runs 0x100 [0xC4#8, 0x34#8, 0x12#8] [.pair .SP 0xD000#16, .flags 0x00#8]
      [.pair .SP 0xCFFE#16, .byte 0xCFFE#16 0x03#8, .byte 0xCFFF#16 0x01#8, .pc 0x1234#16] 0b0000 (.activeAt 6) :=
  by decide +kernel

theorem test_B7_RET :
    runs 0x100 [0xC9#8] [.pair .SP 0xCFFE#16, .byte 0xCFFE#16 0x03#8, .byte 0xCFFF#16 0x01#8]
      [.pair .SP 0xD000#16, .pc 0x0103#16] 0b0000 (.activeAt 4) &&
    runs 0x100 [0xC0#8] [.pair .SP 0xCFFE#16, .flags 0x00#8, .byte 0xCFFE#16 0x03#8, .byte 0xCFFF#16 0x01#8]
      [.pair .SP 0xD000#16, .pc 0x0103#16] 0b0000 (.activeAt 5) &&
    runs 0x100 [0xC0#8] [.pair .SP 0xCFFE#16, .flags 0x80#8, .byte 0xCFFE#16 0x03#8, .byte 0xCFFF#16 0x01#8]
      [.pc 0x0101#16] 0b1000 (.activeAt 2) &&
    runs 0x100 [0xD8#8] [.pair .SP 0xCFFE#16, .flags 0x10#8, .byte 0xCFFE#16 0x03#8, .byte 0xCFFF#16 0x01#8]
      [.pair .SP 0xD000#16, .pc 0x0103#16] 0b0001 (.activeAt 5) &&
    runs 0x100 [0xC8#8] [.pair .SP 0xCFFE#16, .flags 0x00#8, .byte 0xCFFE#16 0x03#8, .byte 0xCFFF#16 0x01#8]
      [.pc 0x0101#16] 0b0000 (.activeAt 2) &&
    runs 0x100 [0xD0#8] [.pair .SP 0xCFFE#16, .flags 0x00#8, .byte 0xCFFE#16 0x03#8, .byte 0xCFFF#16 0x01#8]
      [.pair .SP 0xD000#16, .pc 0x0103#16] 0b0000 (.activeAt 5) := by decide +kernel

theorem test_B7_RETI :
    runs 0x100 [0xD9#8] [.pair .SP 0xCFFE#16, .ime false, .byte 0xCFFE#16 0x03#8, .byte 0xCFFF#16 0x01#8]
      [.pair .SP 0xD000#16, .ime true, .pc 0x0103#16] 0b0000 (.activeAt 4) := by decide +kernel

theorem test_B7_RST :
    runs 0x100 [0xC7#8] [.pair .SP 0xD000#16]
      [.pair .SP 0xCFFE#16, .byte 0xCFFE#16 0x01#8, .byte 0xCFFF#16 0x01#8, .pc 0x0000#16] 0b0000 (.activeAt 4) &&
    runs 0x100 [0xEF#8] [.pair .SP 0xD000#16]
      [.pair .SP 0xCFFE#16, .byte 0xCFFE#16 0x01#8, .byte 0xCFFF#16 0x01#8, .pc 0x0028#16] 0b0000 (.activeAt 4) :=
  by decide +kernel

theorem test_B8_NOP :
    runs 0x100 [0x00#8] [] [.pc 0x0101#16] 0b0000 (.activeAt 1) := by decide +kernel

theorem test_B8_DI :
    runs 0x100 [0xF3#8] [.ime true] [.ime false, .pc 0x0101#16] 0b0000 (.activeAt 1) := by decide +kernel

theorem test_B8_EI :
    runs 0x100 [0xFB#8] [.ime false] [.ime true, .pc 0x0101#16] 0b0000 (.activeAt 1) := by decide +kernel

theorem test_B8_HALT :
    runs 0x100 [0x76#8] [] [.pc 0x0101#16] 0b0000 .idle &&
    runs 0x100 [0x76#8] [.ie 0x04#8, .iflag 0x04#8, .ime false] [.pc 0x0101#16] 0b0000 .idle := by decide +kernel

theorem test_B9_dispatch :
    runs 0x100 [0x00#8] [.ime true, .ie 0x1F#8, .iflag 0x1F#8, .pair .SP 0xD000#16]
      [.pair .SP 0xCFFE#16, .ime false, .iflag 0x1E#8, .byte 0xCFFF#16 0x01#8, .pc 0x0040#16] 0b0000 (.activeAt 5) &&
    runs 0x100 [0x00#8] [.ime true, .ie 0x14#8, .iflag 0x1C#8, .pair .SP 0xD000#16]
      [.pair .SP 0xCFFE#16, .ime false, .iflag 0x18#8, .byte 0xCFFF#16 0x01#8, .pc 0x0050#16] 0b0000 (.activeAt 5) &&
    runs 0x100 [0xF3#8] [.ime true, .ie 0x04#8, .iflag 0x04#8, .pair .SP 0xD000#16]
      [.pair .SP 0xCFFE#16, .ime false, .iflag 0x00#8, .byte 0xCFFF#16 0x01#8, .pc 0x0050#16] 0b0000 (.activeAt 5) &&
    runs 0x100 [0xDD#8] [.ime true, .ie 0x04#8, .iflag 0x04#8, .pair .SP 0xD000#16]
      [.pair .SP 0xCFFE#16, .ime false, .iflag 0x00#8, .byte 0xCFFF#16 0x01#8, .pc 0x0050#16] 0b0000 (.activeAt 5) &&
    runs 0x1a5 [0x00#8] [.ime true, .ie 0x04#8, .iflag 0x04#8, .pair .SP 0xFF11#16]
      [.pair .SP 0xFF0F#16, .ime false, .byte 0xFF0F#16 0xA5#8, .byte 0xFF10#16 0x01#8, .pc 0x0050#16] 0b0000 (.activeAt 5) :=
  by decide +kernel

theorem test_B9_NOP :
    runs 0x100 [0x00#8] [.ime true, .ie 0xE0#8, .iflag 0xE0#8, .pair .SP 0xD000#16]
      [.pc 0x0101#16] 0b0000 (.activeAt 1) &&
    runs 0x100 [0x00#8] [.ime true, .ie 0x01#8, .iflag 0x1E#8, .pair .SP 0xD000#16]
      [.pc 0x0101#16] 0b0000 (.activeAt 1) := by decide +kernel

theorem test_B8_fatal :
    stopsWith (launch 0x100 [0x10#8, 0x00#8] []) (.stop 0x10#8 0x0100#16) &&
    stopsWith (launch 0x100 [0xD3#8] []) (.illegalOpcode 0xD3#8 0x0100#16) &&
    stopsWith (launch 0x100 [0xDB#8] []) (.illegalOpcode 0xDB#8 0x0100#16) &&
    stopsWith (launch 0x100 [0xDD#8] []) (.illegalOpcode 0xDD#8 0x0100#16) &&
    stopsWith (launch 0x100 [0xE3#8] []) (.illegalOpcode 0xE3#8 0x0100#16) &&
    stopsWith (launch 0x100 [0xE4#8] []) (.illegalOpcode 0xE4#8 0x0100#16) &&
    stopsWith (launch 0x100 [0xEB#8] []) (.illegalOpcode 0xEB#8 0x0100#16) &&
    stopsWith (launch 0x100 [0xEC#8] []) (.illegalOpcode 0xEC#8 0x0100#16) &&
    stopsWith (launch 0x100 [0xED#8] []) (.illegalOpcode 0xED#8 0x0100#16) &&
    stopsWith (launch 0x100 [0xF4#8] []) (.illegalOpcode 0xF4#8 0x0100#16) &&
    stopsWith (launch 0x100 [0xFC#8] []) (.illegalOpcode 0xFC#8 0x0100#16) &&
    stopsWith (launch 0x100 [0xFD#8] []) (.illegalOpcode 0xFD#8 0x0100#16) := by decide +kernel

/-! ## The bus and the pixel data types (A2, A3) -/

/-- A write, then a read. -/
def stores (bus : List Component) (a : Word) (v r : Byte) : Bool := ((State.resetOn bus []).busWrite a v).busRead a == r

theorem test_A3_bus :
    stores flatPlatform 0x8000#16 0x12#8 0x12#8 && stores flatPlatform 0xFE9F#16 0x34#8 0x34#8 &&
    stores flatPlatform 0xFEA0#16 0x34#8 0x34#8 && stores flatPlatform 0xFFFF#16 0xE7#8 0xE7#8 &&
    stores flatPlatform 0xFF0F#16 0xE7#8 0xE7#8 && stores flatPlatform 0xFF07#16 0xFD#8 0x05#8 &&
    stores flatPlatform 0xFF04#16 0x55#8 0x00#8 && stores flatPlatform 0xFF44#16 0x55#8 0x00#8 &&
    stores flatPlatform 0xFF41#16 0xFF#8 0xF8#8 && stores coreComponents 0xC000#16 0xAB#8 0xFF#8 &&
    stores (coreComponents ++ [.ram 1 0xC000 0xDFFF 0, .ram 2 0xC000 0xDFFF 0]) 0xC000#16 0xAB#8 0xAB#8 := by
  decide +kernel

/-- Bytes under keys of a cartridge (bank 0) and of the overlay (bank 1), among them one listed twice, one beyond the
overlay, and one of VRAM and one of OAM, which are not the launch's to set. -/
def images : List Host.Cell :=
  [(0x0000, 0xAA#8), (0x00FF, 0xAB#8), (0x0100, 0xBB#8), (0x10000, 0x00#8), (0x10000, 0x31#8), (0x100FF, 0x50#8),
    (0x10100, 0x77#8), (0x8000, 0x01#8), (0xFE9F, 0x02#8)]

/-- R72, R442: the boot ROM overlay answers its addresses while enabled, before the cartridge, and ignores writes. -/
theorem test_R72_overlay :
    (match State.launch consolePlatform images [] with
      | .next s =>
        let off := s.applyAction (.enableOverlay false)
        [0x0000#16, 0x00FF#16, 0x0100#16, 0x8000#16, 0xFE9F#16].map s.busRead ==
          [0x31#8, 0x50#8, 0xBB#8, 0x00#8, 0x00#8] &&
        [0x0000#16, 0x00FF#16, 0x0100#16].map off.busRead == [0xAA#8, 0xAB#8, 0xBB#8] &&
        off.applyAction (.enableOverlay true) == s && s.busWrite 0x0000#16 0xFF#8 == s
      | _ => false) = true := by decide +kernel

/-- R442: a launch on the core's own components alone fails; so does one whose only component there is switched off. -/
theorem test_R442_missing_collaborator :
    ([coreComponents, coreComponents ++ [.overlay 1 0x0000 0x00FF false], []].all fun platform =>
      match State.launch platform images [] with
      | .refused .missingCollaborator => true
      | _ => false) = true := by decide +kernel

theorem test_A2_bitVectors :
    Bits.shift 0x80000001#32 1 = 0x00000002#32 ∧ Bits.shift 0x80000001#32 (-1) = 0x40000000#32 ∧
    Bits.shift 0x80000001#32 32 = 0#32 ∧ Bits.extractWrapped 0x80000001#32 1 32 = 0xC0000000#32 ∧
    Bits.extractWrapped 0x80000001#32 (-1) 32 = 0x00000003#32 ∧
    Bits.extractWrapped 0x80000001#32 0 64 = 0x8000000180000001#64 ∧
    Bits.extractZeroExtended 0x80000001#32 16 32 = 0x00008000#32 ∧
    Bits.extractZeroExtended 0x80000001#32 (-1) 32 = 0x00000002#32 ∧
    Bits.extractZeroExtended 0x80000001#32 0 64 = 0x0000000080000001#64 := by decide +kernel

/-! ## Waking, stopping, the driving loop -/

/-- What a step or a run answers, tested on its next state. -/
def answers (r : Result) (p : State → Bool) : Bool :=
  match r with
  | .next t => p t
  | _ => false

/-- B8, the second HALT row: an idle CPU with an enabled kind pending and IME = 0 runs the instruction at PC. -/
theorem test_B8_wakes_and_works :
    answers (step { launch 0x101 [0x3C#8] [.ie 0x04#8, .iflag 0x04#8] with cpuNext := .idle }) (fun t =>
      t.regs.a == 0x01#8 && t.iflag == 0x04#8 && t.cpuNext == .activeAt 1) := by decide +kernel

/-- P2 at cycle 271: the timer's overflow wakes the CPU and is dispatched in its own cycle. -/
theorem test_P2_overflow_dispatches_at_once :
    answers (step { launch 0x110 [0x18#8, 0xFD#8] [.ie 0x04#8, .ime true, .pair .SP 0xFFFE#16] with
      cycle := 271, cpuNext := .idle, timer := ⟨0x010F#16, 0xFF#8, 0xF0#8, 5#3⟩ }) (fun t =>
      t.pc == 0x0050#16 && t.timer.tima == 0xF0#8 && t.iflag == 0x00#8 && !t.ime && t.cpuNext == .activeAt 276 &&
      t.busRead 0xFFFC#16 == 0x10#8 && t.busRead 0xFFFD#16 == 0x01#8) := by decide +kernel

/-- R313: STOP is fatal, before any effect. -/
theorem test_stop : stopsWith (launch 0x0002 [0x10#8, 0x00#8] []) (.stop 0x10#8 0x0002#16) = true := by decide +kernel

/-- R9: a target already past is refused. -/
theorem test_runUntil_refuses_the_past :
    (match State.runUntil 4 { State.reset with cycle := 5 } with
      | .refused .timeTravel => true
      | _ => false) = true := by decide +kernel

/-- An instruction placed for the next step is the one the next step runs. -/
theorem test_withFetchWord :
    answers (step (State.reset.withFetchWord 8 0x3C)) (fun t => t.regs.a == 0x01#8 && t.pc == 0x0001#16) &&
    answers (step (State.reset.withFetchWord 16 0xCBC7)) (fun t => t.regs.a == 0x01#8 && t.pc == 0x0002#16) := by
  decide +kernel

/-- R404: a host's request is applied before the cycle's steps. -/
theorem test_host_request :
    answers (step { launch 0x100 [] [.ie 0x10#8, .ime true] with hostInputs := [[.requestJoypad]] }) (fun t =>
      t.pc == 0x0060#16 && t.iflag == 0x00#8 && t.hostInputs == []) := by decide +kernel

/-! ## The timer (A4, B10) -/

/-- One timer step and what it requests. -/
def ticks (t u : Timer) (q : Byte) : Bool := t.tick == (u, q)

theorem test_B10_timer_step :
    ticks ⟨0x000E#16, 0x00#8, 0x00#8, 5#3⟩ ⟨0x000F#16, 0x00#8, 0x00#8, 5#3⟩ 0x00#8 &&
    ticks ⟨0x000F#16, 0x00#8, 0x00#8, 5#3⟩ ⟨0x0010#16, 0x01#8, 0x00#8, 5#3⟩ 0x00#8 &&
    ticks ⟨0x0FFF#16, 0xFF#8, 0xF0#8, 5#3⟩ ⟨0x1000#16, 0xF0#8, 0xF0#8, 5#3⟩ 0x04#8 &&
    ticks ⟨0x03FF#16, 0x00#8, 0x00#8, 4#3⟩ ⟨0x0400#16, 0x01#8, 0x00#8, 4#3⟩ 0x00#8 &&
    ticks ⟨0x003F#16, 0x00#8, 0x00#8, 6#3⟩ ⟨0x0040#16, 0x01#8, 0x00#8, 6#3⟩ 0x00#8 &&
    ticks ⟨0xFFFF#16, 0xFF#8, 0x00#8, 7#3⟩ ⟨0x0000#16, 0x00#8, 0x00#8, 7#3⟩ 0x04#8 &&
    ticks ⟨0x000F#16, 0x00#8, 0x00#8, 1#3⟩ ⟨0x0010#16, 0x00#8, 0x00#8, 1#3⟩ 0x00#8 := by decide +kernel

/-- A4: the DIV write after 1000 cycles clears `main` and counts, bit 3 of 0x03E8 being 1. -/
theorem test_A4_div_write :
    Timer.writeReg ⟨0x03E8#16, 0x3E#8, 0x00#8, 5#3⟩ .div 0x77#8 = (⟨0x0000#16, 0x3F#8, 0x00#8, 5#3⟩, 0x00#8) := by
  decide

/-! ## The LCD controller (B11, B12) -/

/-- The VRAM contents M0 of B11. -/
def m0 : List Put :=
  [.byte 0x9800#16 0x01#8, .byte 0x9801#16 0x02#8, .byte 0x9820#16 0x03#8, .byte 0x9821#16 0x04#8,
    .byte 0x8010#16 0x3C#8, .byte 0x8011#16 0x7E#8, .byte 0x8012#16 0x81#8, .byte 0x8013#16 0x81#8,
    .byte 0x8020#16 0x0F#8, .byte 0x8021#16 0x55#8, .byte 0x8030#16 0xFF#8, .byte 0x8041#16 0xFF#8,
    .byte 0x8050#16 0xFF#8, .byte 0x8051#16 0x0F#8, .byte 0x8060#16 0xF0#8, .byte 0x8061#16 0xF0#8]

/-- OAM entry i. -/
def entry (i : Nat) (y x tile attr : Byte) : List Put :=
  [.byte (BitVec.ofNat 16 (0xFE00 + 4 * i)) y, .byte (BitVec.ofNat 16 (0xFE01 + 4 * i)) x,
    .byte (BitVec.ofNat 16 (0xFE02 + 4 * i)) tile, .byte (BitVec.ofNat 16 (0xFE03 + 4 * i)) attr]

/-- The number whose bit x is the given bit of the pixel at x. -/
def plane (bit : Nat) : List Nat → Nat
  | [] => 0
  | p :: ps => (p / 2 ^ bit % 2) + 2 * plane bit ps

/-- The line composed from M0 and these bytes: the pixels listed, and color 0 after them. -/
def shows (more : List Put) (l : Lcd) (pixels : List Nat) : Bool :=
  match Compose.line (launch 0x0000 [] (m0 ++ more)).busRead l.recomputeWindow with
  | ⟨msb, lsb, _⟩ => msb.toNat == plane 1 pixels && lsb.toNat == plane 0 pixels

/-- The controller of B11's background and sprite rows. -/
def lcdWith (lcdc : Byte) : Lcd := { Lcd.reset with lcdc := lcdc, bgp := 0xE4#8, obp0 := 0xE4#8, obp1 := 0x1B#8 }

theorem test_B11_S5 : shows (entry 0 16#8 10#8 6#8 0x10#8 ++ entry 1 16#8 10#8 5#8 0x00#8) (lcdWith 0x93#8)
    [0, 2, 0, 0, 0, 0, 3, 3, 3, 3, 0, 2, 1, 3, 1, 3] := by decide +kernel

theorem test_B11_S6 : shows (entry 0 16#8 10#8 5#8 0x80#8 ++ entry 1 16#8 12#8 6#8 0x10#8) (lcdWith 0x93#8)
    [0, 2, 3, 3, 0, 0, 0, 0, 3, 2, 0, 2, 1, 3, 1, 3] := by decide +kernel

theorem test_B11_S9 : shows ([.byte 0x805E#16 0x0F#8] ++ entry 0 16#8 8#8 5#8 0x40#8) (lcdWith 0x97#8)
    [0, 2, 3, 3, 1, 1, 1, 1, 0, 2, 0, 2, 1, 3, 1, 3] := by decide +kernel

theorem test_B11_W1 : shows [.byte 0x9C00#16 0x03#8, .byte 0x9C01#16 0x04#8] { lcdWith 0xF1#8 with wx := 15#8 }
    [0, 2, 3, 3, 3, 3, 2, 0, 1, 1, 1, 1, 1, 1, 1, 1, 2, 2, 2, 2, 2, 2, 2, 2] := by decide +kernel

/-- One step of the mode machine: the mode, LY, STAT[2], the next cycle and the request. -/
def modeStep (l : Lcd) (c : Nat) (mode ly cmp next : Nat) (q : Byte) : Bool :=
  match l.cycleModes (fun _ => 0x00#8) c with
  | (m, r) => m.mode.toNat == mode && m.ly.toNat == ly && (m.stat.getLsbD 2).toNat == cmp &&
    m.next == .activeAt next && r == q

/-- The controller on, at line `ly` with STAT `stat`, due at cycle c. -/
def lcdAt (ly stat : Byte) (c : Nat) : Lcd := { lcdWith 0x91#8 with ly := ly, stat := stat, next := .activeAt c }

theorem test_B12_modes :
    modeStep { lcdWith 0x91#8 with stat := 0x20#8 } 44 2 0 0 64 0x02#8 && modeStep (lcdAt 0 0x02#8 64) 64 3 0 0 107 0 &&
    modeStep (lcdAt 0 0x0B#8 107) 107 0 0 0 158 0x02#8 && modeStep (lcdAt 0 0x00#8 158) 158 2 1 0 178 0 &&
    modeStep (lcdAt 143 0x10#8 16460) 16460 1 144 0 16574 0x03#8 &&
    modeStep (lcdAt 153 0x41#8 17600) 17600 2 0 1 17620 0x02#8 && modeStep (lcdAt 9 0x00#8 1184) 1184 2 10 0 1204 0 &&
    modeStep { lcdAt 9 0x40#8 1184 with lyc := 10#8 } 1184 2 10 1 1204 0x02#8 := by decide +kernel

/-- R8, R377, R449: in one cycle the host's request, the timer's step, the DMA's byte (the Y of OAM entry 0, which puts
its sprite on the line), and then the composition, which sees that byte. -/
theorem test_R449_order :
    (let s := { launch 0x0000 [] (m0 ++ entry 0 0#8 8#8 5#8 0#8 ++ [.byte 0xC000#16 16#8]) with
        hostInputs := [[.requestSerial], []], timer := ⟨0x000F#16, 0xFF#8, 0xF0#8, 5#3⟩, dma := ⟨true, 0xC000#16, 0⟩
        lcd := { lcdAt 0 0x02#8 0 with lcdc := 0x93#8 } }
     let d := s.devicesCycle
     d.hostInputs == [[]] && d.iflag == 0x0C#8 && d.timer == ⟨0x0010#16, 0xF0#8, 0xF0#8, 5#3⟩ &&
     d.dma == ⟨true, 0xC000#16, 1⟩ && d.lcd.mode == 3#2 &&
     ((List.range 8).map fun x => imageGet d.lcd.builder x 0) == [1, 1, 1, 1, 3, 3, 3, 3].map some) = true := by
  decide +kernel

/-! ## The DMA engine (B13) -/

/-- A step copies one byte; the write of 0xFF46 started the transfer. -/
theorem test_B13_dma_step :
    answers (step (launch 0x100 [] [.byte 0xC000#16 0x5A#8, .byte 0xFF46#16 0xC0#8])) (fun t =>
      t.busRead 0xFE00#16 == 0x5A#8 && t.dma == ⟨true, 0xC000#16, 1⟩ && t.busRead 0xFF46#16 == 0xC0#8) := by
  decide +kernel

/-- The last byte ends the transfer. -/
theorem test_B13_dma_ends :
    answers (step { launch 0x100 [] [.byte 0xC09F#16 0x9F#8] with dma := ⟨true, 0xC000#16, 159⟩ }) (fun t =>
      t.busRead 0xFE9F#16 == 0x9F#8 && t.dma == ⟨false, 0xC000#16, 160⟩) := by decide +kernel

/-! ## Witnesses for the statements' hypotheses -/

/-- A state on the default platform: HL, BC and DE in work RAM, a stack, C pointing into high RAM. -/
def console : State :=
  { State.reset with
    regs := ⟨0x12#8, 0xF0#8, 0xC0#8, 0x80#8, 0xDF#8, 0xFF#8, 0xC0#8, 0x00#8⟩
    pc := 0xC100#16
    sp := 0xD000#16 }

/-- The LCD controller and a DMA transfer at work. -/
def busy : State :=
  { console with lcd := { lcdAt 5 0x02#8 3 with winLine := 2 }, dma := ⟨true, 0xC000#16, 7⟩, mem := [(0xC100, 0x3C#8)] }

/-- CpuRegistersOnTheBus, TimerRegisterWrites, LcdOffAndOn, LcdRegisterWrites: the two platforms of the model. -/
theorem witness_corePlatform : corePlatform consolePlatform ∧ corePlatform flatPlatform := by
  constructor
  · refine ⟨_, rfl, fun e he => ?_⟩
    simp only [List.mem_cons, List.not_mem_nil, or_false] at he
    rcases he with rfl | rfl | rfl | rfl | rfl
    · exact .inr (.inr ⟨_, _, _, _, rfl⟩)
    · exact .inr (.inl ⟨_, _, _, rfl⟩)
    · exact .inl ⟨_, _, _, _, rfl⟩
    · exact .inl ⟨_, _, _, _, rfl⟩
    · exact .inl ⟨_, _, _, _, rfl⟩
  · refine ⟨_, rfl, fun e he => ?_⟩
    simp only [List.mem_cons, List.not_mem_nil, or_false] at he
    exact .inl ⟨_, _, _, _, he⟩

theorem witness_ResetStateValues :
    State.reset.busRead (0xFF40#16 + BitVec.ofNat 16 0) = 0#8 ∧ State.reset.busRead (0xFF40#16 + BitVec.ofNat 16 11) = 0#8 ∧
    imageGet State.reset.lcd.image 159 143 = some 0#2 ∧ imageGet State.reset.lcd.image 0 0 = some 0#2 ∧
    State.reset.busRead 0x8000#16 = 0#8 ∧ State.reset.busRead 0x9FFF#16 = 0#8 ∧ State.reset.busRead 0xFE00#16 = 0#8 ∧
    State.reset.busRead 0xFE9F#16 = 0#8 ∧ imageGet State.reset.lcd.builder 159 143 = some 0#2 ∧
    ((∀ d ∈ coreComponents, d.owns 0x0000#16 = false) ∧ ∀ d ∈ ([] : List Component), d.owns 0x0000#16 = false) ∧
    ((∃ d ∈ consolePlatform, d.owns 0x0000#16 = true) ∧ ∃ d ∈ flatPlatform, d.owns 0x0000#16 = true) ∧
    (images = images.take 4 ++ (0x10000, 0x31#8) :: images.drop 5 ∧ (∀ c ∈ images.drop 5, c.1 ≠ 0x10000) ∧
      (∀ c ∈ images, c.1 ≠ 0x7FFF) ∧ ¬(0x8000 ≤ 0x10000 ∧ 0x10000 ≤ 0x9FFF) ∧
      ¬(0xFE00 ≤ 0x10000 ∧ 0x10000 ≤ 0xFE9F)) := by decide +kernel

theorem witness_DecodeOfEncode :
    (Instr.call_nn 0xFFFF#16).wellFormed = true ∧ (Instr.bit_b_mHL 7).wellFormed = true := by decide

/-- INC A at PC, IME clear; and with IME set, nothing enabled pending (bits 5 to 7 do not count). -/
theorem witness_StepRunsTheDecodedInstruction :
    ∀ s ∈ [launch 0x100 [0x3C#8] [], launch 0x100 [0x3C#8] [.ime true, .ie 0xE1#8, .iflag 0xFE#8]],
      s.devicesCycle.cpuNext = .activeAt s.devicesCycle.cycle ∧
      (s.devicesCycle.ime = false ∨ s.devicesCycle.ie &&& s.devicesCycle.iflag &&& 0x1F#8 = 0#8) ∧
      decode [s.devicesCycle.busRead s.devicesCycle.pc, s.devicesCycle.busRead (s.devicesCycle.pc + 1),
        s.devicesCycle.busRead (s.devicesCycle.pc + 2)] = .ok (.inc_A, [0x00#8, 0x00#8]) := by decide +kernel

theorem witness_WaitingAndWakingCpu :
    (let d := ({ console with cpuNext := .activeAt 5 } : State).devicesCycle
     d.cpuNext = .activeAt 5 ∧ 5 ≠ d.cycle) ∧
    (let d := ({ console with cpuNext := .idle, ie := 0xE4#8, iflag := 0xE3#8 } : State).devicesCycle
     d.cpuNext = .idle ∧ d.ie &&& d.iflag &&& 0x1F#8 = 0#8) ∧
    (let d := ({ launch 0x101 [0x3C#8] [.ie 0x04#8, .iflag 0x04#8] with cpuNext := .idle } : State).devicesCycle
     d.cpuNext = .idle ∧ d.ie &&& d.iflag &&& 0x1F#8 ≠ 0#8 ∧ d.ime = false ∧
      decode [d.busRead d.pc, d.busRead (d.pc + 1), d.busRead (d.pc + 2)] = .ok (.inc_A, [0x00#8, 0x00#8])) := by
  decide +kernel

/-- The least and the greatest kind, from an idle and from a due CPU. -/
theorem witness_InterruptDispatch :
    (let d := ({ console with cpuNext := .idle, ime := true, ie := 0x1F#8, iflag := 0x1F#8 } : State).devicesCycle
     d.cpuNext = .idle ∧ d.ime = true ∧ (d.ie.getLsbD Interrupt.vBlank.index = true ∧
      d.iflag.getLsbD Interrupt.vBlank.index = true) ∧
      ∀ j, j < Interrupt.vBlank.index → ¬(d.ie.getLsbD j = true ∧ d.iflag.getLsbD j = true)) ∧
    (let d := ({ console with ime := true, ie := 0x1F#8, iflag := 0xF0#8 } : State).devicesCycle
     d.cpuNext = .activeAt d.cycle ∧ d.ime = true ∧ (d.ie.getLsbD Interrupt.joypad.index = true ∧
      d.iflag.getLsbD Interrupt.joypad.index = true) ∧
      ∀ j, j < Interrupt.joypad.index → ¬(d.ie.getLsbD j = true ∧ d.iflag.getLsbD j = true)) := by decide +kernel

/-- Each kind has its bit among the eight. -/
theorem witness_RequestInterruptSetsItsBit :
    [Interrupt.vBlank, .lcdStat, .timer, .serial, .joypad].map (fun k => (State.reset.requestInterrupt k).iflag) =
      [0x01#8, 0x02#8, 0x04#8, 0x08#8, 0x10#8] := by decide

theorem witness_RunUntilStepsToTheTarget :
    4 < ({ State.reset with cycle := 5 } : State).cycle ∧ 0 = State.reset.cycle ∧ State.reset.cycle < 1 ∧
    answers (State.reset.runUntil 1) (fun t => t.cycle == 1) = true ∧ State.reset.hostInputs = [] ∧
    (let s : State := { busy with hostInputs := [[.requestSerial, .setExternal 0x9FFF 0x01#8, .setExternal 0xA000 0x02#8],
        [.enableOverlay false]] }
     s.hostInputs = [.requestSerial, .setExternal 0x9FFF 0x01#8, .setExternal 0xA000 0x02#8] :: [[.enableOverlay false]] ∧
     s.applyInputs.mem = [(0xA000, 0x02#8), (0xC100, 0x3C#8)] ∧ s.applyInputs.iflag = 0x08#8) ∧
    [0x7FFF, 0x8000, 0x9FFF, 0xA000, 0xFDFF, 0xFE00, 0xFE9F, 0xFEA0, 0x10000].map
      (fun k => (busy.applyAction (.setExternal k 0x55#8)).mem.read k) =
        [0x55#8, 0x00#8, 0x00#8, 0x55#8, 0x55#8, 0x00#8, 0x00#8, 0x55#8, 0x55#8] ∧
    consolePlatform[5]? = some (.overlay 1 0x0000 0x00FF true) ∧ consolePlatform[6]? = some (.rom 0 0x0000 0x7FFF) ∧
    ((State.reset.applyAction (.enableOverlay false)).bus[5]? = some (.overlay 1 0x0000 0x00FF false) ∧
      (State.reset.applyAction (.enableOverlay false)).bus[6]? = some (.rom 0 0x0000 0x7FFF)) := by decide +kernel

theorem witness_StepKeepsInvariant : busy.Inv ∧ answers (step busy) (fun t => t.dma.offset == 8) = true := by
  refine ⟨⟨by decide, by decide, fun _ _ => Nat.zero_le _, fun _ _ => Nat.zero_le _, ?_, ?_⟩, by decide +kernel⟩
  · exact ⟨by decide, by decide, by decide, by decide, by decide, by decide, by decide, by decide +kernel⟩
  · exact ⟨by decide, by decide, by decide⟩

/-- The instructions of both statements' cases answer next states. -/
theorem witness_OnlyEiRetiDiWriteIme_OnlyHaltIdles :
    [Instr.ei, .reti, .di, .nop, .halt, .call_nn 0x1234#16].map (fun i => answers (exec i console) fun _ => true) =
      [true, true, true, true, true, true] := by decide +kernel

theorem witness_OnlyUndefinedOpcodesAreFatal :
    Instr.illegal_D3 ≠ .stop ∧ fatalOpcode? .illegal_D3 = some 0xD3#8 ∧ Instr.illegal_FD ≠ .stop ∧
    fatalOpcode? .illegal_FD = some 0xFD#8 ∧ fatalOpcode? .nop = none ∧ fatalOpcode? (.escape 0x00#8) = none := by decide

/-- An instruction without a condition at the last address, and one whose condition is false. -/
theorem witness_PcAdvancesByTheLength :
    (({ console with pc := 0xFFFF#16 } : State).pc = 0xFFFF#16 ∧ Instr.nop.wellFormed = true ∧ fatalOpcode? .nop = none ∧
      transfers .nop = false ∧ condition? .nop = none) ∧
    ((Instr.jr_NZ_e 0x05#8).wellFormed = true ∧ fatalOpcode? (.jr_NZ_e 0x05#8) = none ∧
      transfers (.jr_NZ_e 0x05#8) = false ∧ condition? (.jr_NZ_e 0x05#8) = some .NZ ∧ console.cond .NZ = false) := by
  decide

theorem witness_AluLaws :
    (∃ lo hi : AluWord 8, lo = Alu.add (loByte 0xFFFF#16) (loByte 0x0001#16) false ∧
      hi = Alu.add (hiByte 0xFFFF#16) (hiByte 0x0001#16) lo.cf) ∧
    (∃ (l r : Byte) (W V : AluWord 8), l = BitVec.ofNat 8 (99 / 10 * 16 + 99 % 10) ∧
      r = BitVec.ofNat 8 (99 / 10 * 16 + 99 % 10) ∧ W = Alu.add l r true ∧ V = Alu.bcdAdjust W.val false W.hf W.cf ∧
      V.val = 0x99#8 ∧ V.cf = true) := ⟨⟨_, _, rfl, rfl⟩, _, _, _, _, rfl, rfl, rfl, rfl, by decide, by decide⟩

/-- StoreByteForms, LoadAndStoreMovingHL, IncrementAndDecrement, RotateMemory, ResetAndSetBit, PushForms, CallForms,
InterruptDispatch: the addresses at which they say what is read back, in one state: HL, BC, DE, nn, 0xFF00 + n,
0xFF00 + C and the two stack bytes; each at an end of its range of storage where it can be. -/
theorem witness_plainByte :
    console.hl = 0xC000#16 ∧ console.bc = 0xC080#16 ∧ console.de = 0xDFFF#16 ∧
    [console.hl, console.bc, console.de, 0x8000#16, 0x9FFF#16, 0xFE00#16, 0xFE9F#16, 0xFF80#16, 0xFFFE#16,
      highPage console.regs.c, console.sp - 1, console.sp - 2].all (plainByte console.bus) = true := by decide +kernel

/-- The same statements' frames: addresses that those stores leave alone, and stores that hit no core register. -/
theorem witness_StoresOnly :
    affects consolePlatform 0xC000#16 0xC001#16 = false ∧ affects consolePlatform 0xC000#16 0xDFFF#16 = false ∧
    affects consolePlatform 0xFF80#16 0xFFFF#16 = false ∧ coreRegister 0xC000#16 = false ∧
    coreRegister 0xFFFE#16 = false := by decide +kernel

theorem witness_LoadAndStoreMovingHL :
    (∃ (i : Instr) (d op : Nat), (i, d, op) = (.ld_A_mHLi, 1, 0x2A) ∧ answers (exec i console) fun _ => true) ∧
    (∃ (i : Instr) (d op : Nat), (i, d, op) = (.ld_A_mHLd, 65535, 0x3A) ∧ answers (exec i console) fun _ => true) ∧
    (∃ (i : Instr) (d op : Nat), (i, d, op) = (.ld_mHLi_A, 1, 0x22) ∧ answers (exec i console) fun _ => true) ∧
    (∃ (i : Instr) (d op : Nat), (i, d, op) = (.ld_mHLd_A, 65535, 0x32) ∧ answers (exec i console) fun _ => true) :=
  ⟨⟨_, _, _, rfl, by decide +kernel⟩, ⟨_, _, _, rfl, by decide +kernel⟩, ⟨_, _, _, rfl, by decide +kernel⟩,
    ⟨_, _, _, rfl, by decide +kernel⟩⟩

/-- An address in work RAM, and the last one before the echo. -/
theorem witness_StoreStackPointer :
    [0xC000#16, 0xDFFF#16].all (fun nn => plainByte console.bus (nn + 1) && plainByte console.bus nn &&
      !affects console.bus (nn + 1) nn) = true := by decide +kernel

/-- The stack of `console`: also for PushForms, CallForms and InterruptDispatch. -/
theorem witness_PopUndoesPush :
    plainByte console.bus (console.sp - 1) = true ∧ plainByte console.bus (console.sp - 2) = true ∧
    affects console.bus (console.sp - 2) (console.sp - 1) = false := by decide +kernel

theorem witness_PopForms : StackPair.AF = .AF ∧ StackPair.BC ≠ .AF ∧ StackPair.DE ≠ .BC := by decide

/-- A tuple of each kind that AddForms, SubtractForms and CompareForms ask for. -/
theorem witness_AddForms_SubtractForms_CompareForms :
    (∃ (i : Instr) (v c len cycles : Nat),
      (i, v, c, len, cycles) = (.aluR .add .A, (console.reg .A).toNat, 0, 1, 1)) ∧
    (∃ (i : Instr) (v c len cycles : Nat), (i, v, c, len, cycles) = (.aluN .adc 0xFF#8, 255, console.fC.toNat, 2, 2) ∧
      c = 1) ∧
    (∃ (i : Instr) (v c len cycles : Nat),
      (i, v, c, len, cycles) = (.aluM .sbc, (console.busRead console.hl).toNat, console.fC.toNat, 1, 2) ∧ c = 1) ∧
    (∃ (i : Instr) (v len cycles : Nat), (i, v, len, cycles) = (.aluN .cp 0x00#8, 0, 2, 2)) :=
  ⟨⟨_, _, _, _, _, rfl⟩, ⟨_, _, _, _, _, rfl, by decide⟩, ⟨_, _, _, _, _, rfl, by decide⟩, ⟨_, _, _, _, rfl⟩⟩

theorem witness_LogicForms :
    (∃ (op : AluOp) (f : Bool → Bool → Bool) (h : Bool) (base : Nat), (op, f, h, base) = (.and, (· && ·), true, 0xA0)) ∧
    (∃ (op : AluOp) (f : Bool → Bool → Bool) (h : Bool) (base : Nat), (op, f, h, base) = (.xor, (· ^^ ·), false, 0xA8)) ∧
    (∃ (op : AluOp) (f : Bool → Bool → Bool) (h : Bool) (base : Nat), (op, f, h, base) = (.or, (· || ·), false, 0xB0)) ∧
    (∃ (i : Instr) (v : Byte) (len cycles : Nat),
      (i, v, len, cycles) = (.aluM .and, console.busRead console.hl, 1, 2)) :=
  ⟨⟨_, _, _, _, rfl⟩, ⟨_, _, _, _, rfl⟩, ⟨_, _, _, _, rfl⟩, ⟨_, _, _, _, rfl⟩⟩

/-- The numbers of DAA for A = 0x12 with all four flags set: 0x12 - 0x66 is 0xAC. -/
theorem witness_DecimalAdjust :
    ∃ v lo hi w : Nat, v = console.regs.a.toNat ∧
      lo = (if console.fH = true ∨ (console.fN = false ∧ v % 16 > 9) then 6 else 0) ∧
      hi = (if console.fC = true ∨ (console.fN = false ∧ v > 0x99) then 0x60 else 0) ∧
      w = (if console.fN = true then (v + 256 - (lo + hi)) % 256 else (v + lo + hi) % 256) ∧ w = 0xAC :=
  ⟨_, _, _, _, rfl, rfl, rfl, rfl, by decide⟩

theorem witness_RotateAccumulator_RotateMemory :
    (∃ (i : Instr) (op : RotOp) (byte : Nat), (i, op, byte) = (.rlca, .rlc, 0x07)) ∧
    (∃ (i : Instr) (op : RotOp) (byte : Nat), (i, op, byte) = (.rra, .rr, 0x1F)) ∧
    (∃ v c : Nat, (v, c) = rotated .rr (console.busRead console.hl).toNat console.fC.toNat ∧ (v, c) = (0x80, 0)) :=
  ⟨⟨_, _, _, rfl⟩, ⟨_, _, _, rfl⟩, _, _, rfl, by decide⟩

/-- Each condition true in one state and false in another: JumpForms, CallForms, ReturnForms. -/
theorem witness_conditions :
    [Cond.NZ, .Z, .NC, .C].map console.cond = [false, true, false, true] ∧
    [Cond.NZ, .Z, .NC, .C].map State.reset.cond = [true, false, true, false] := by decide

theorem witness_ReturnForms :
    (∃ (i : Instr) (byte cycles : Nat), (i, byte, cycles) = (.reti, 0xD9, 4) ∧
      (i = .retCond .Z → console.cond .Z = true)) ∧
    (∃ (i : Instr) (byte cycles : Nat), (i, byte, cycles) = (.retCond .Z, 0xC0 + 8 * codeCond .Z, 5) ∧
      (i = .retCond .Z → console.cond .Z = true)) ∧
    (∃ (i : Instr) (byte cycles : Nat), (i, byte, cycles) = (.retCond .NZ, 0xC0 + 8 * codeCond .NZ, 5) ∧
      i = .retCond .NZ ∧ console.cond .NZ = false) :=
  ⟨⟨_, _, _, rfl, by decide⟩, ⟨_, _, _, rfl, by decide⟩, _, _, _, rfl, rfl, by decide⟩

theorem witness_UnownedAddresses :
    (∀ d ∈ console.bus, d.owns 0xFEA0#16 = false) ∧ (∀ d ∈ console.bus, d.owns 0xFF4C#16 = false) ∧
    (∀ d ∈ console.bus, d.owns 0xFF7F#16 = false) := by decide +kernel

/-- Both ends of work RAM, and a byte of OAM that no echo stands for; the overlay on and off. -/
theorem witness_ConsoleStoreFrame :
    console.bus = consolePlatform.map (Component.setEnabled true) ∧
    (console.applyAction (.enableOverlay false)).bus = consolePlatform.map (Component.setEnabled false) ∧
    [(0xC000#16, 0xDFFF#16), (0xDE00#16, 0xFE00#16), (0xFDFF#16, 0xDDFE#16)].all (fun p =>
      decide (p.1 ≠ Config.regDiv ∧ p.1 ≠ Config.regTac ∧ p.1 ≠ Config.regLcdc ∧ p.1 ≠ Config.regLyc ∧ p.1 ≠ p.2 ∧
      ¬(0xC000 ≤ p.1.toNat ∧ p.1.toNat ≤ 0xFDFF ∧ 0xC000 ≤ p.2.toNat ∧ p.2.toNat ≤ 0xFDFF ∧
        (p.1.toNat + 0x2000 = p.2.toNat ∨ p.2.toNat + 0x2000 = p.1.toNat)))) = true := by decide +kernel

theorem witness_CanonicalMemory :
    ∃ m n : Memory, m = [(0x8000, 0x01#8), (0xFE00, 0x02#8)] ∧ n = [(0x8000, 0x01#8), (0xFE00, 0x02#8)] ∧ m.wf ∧
      n.wf ∧ (∀ k, m.read k = n.read k) ∧ 0 ≠ 1 :=
  ⟨_, _, rfl, rfl, by decide, by decide, fun _ => rfl, by decide⟩

/-- No edge; an edge below 255; an edge at 255. -/
theorem witness_TimerCountsFallingEdges :
    ∀ p ∈ [((⟨0x0010#16, 0x00#8, 0x00#8, 5#3⟩ : Timer), false), (⟨0x000F#16, 0xFE#8, 0x00#8, 5#3⟩, true),
        (⟨0x000F#16, 0xFF#8, 0xF0#8, 5#3⟩, true)],
      [9, 3, 5, 7][p.1.tac.toNat % 4]? = some 3 ∧
      decide (4 ≤ p.1.tac.toNat ∧ p.1.main.toNat.testBit 3 = true ∧
        ((p.1.main.toNat + 1) % 65536).testBit 3 = false) = p.2 := by decide

/-- The signal 0; 1 with TIMA below 255; 1 at 255; and TAC values that keep it and make it fall. -/
theorem witness_TimerRegisterWrites :
    Timer.signal ⟨0x0000#16, 0x00#8, 0x00#8, 5#3⟩ = false ∧
    (Timer.signal ⟨0x0008#16, 0xFE#8, 0x00#8, 5#3⟩ = true ∧ (0xFE#8 : Byte) ≠ 0xFF#8) ∧
    Timer.signal ⟨0x0008#16, 0xFF#8, 0x00#8, 5#3⟩ = true ∧
    Timer.signal ⟨0x0008#16, 0xFF#8, 0x00#8, BitVec.ofNat 3 (0x01#8 : Byte).toNat⟩ = false ∧
    Timer.signal ⟨0x0008#16, 0xFF#8, 0x00#8, BitVec.ofNat 3 (0xFD#8 : Byte).toNat⟩ = true := by decide

/-- An enabled timer that counts up to 255, and a disabled one. -/
theorem witness_TimerPeriod :
    ([1024, 16, 64, 256][(5#3).toNat % 4]? = some 16 ∧ 4 ≤ (5#3).toNat ∧ (0xFE#8 : Byte).toNat + ((0x000F + 1) / 16 - 0x000F / 16) ≤ 255) ∧
    ([1024, 16, 64, 256][(0#3).toNat % 4]? = some 1024 ∧ (0#3).toNat < 4) := by decide

/-- One controller for each of the six transitions, due at cycle 9; and the window drawn on line 0 and not yet. -/
theorem witness_LcdModeTransitions :
    [lcdAt 0 0x02#8 9, lcdAt 0 0x03#8 9, lcdAt 143 0x00#8 9, lcdAt 142 0x00#8 9, lcdAt 153 0x01#8 9,
      lcdAt 152 0x01#8 9].map (fun l => (l.next, l.mode.toNat, l.ly.toNat)) =
    [(.activeAt 9, 2, 0), (.activeAt 9, 3, 0), (.activeAt 9, 0, 143), (.activeAt 9, 0, 142), (.activeAt 9, 1, 153),
      (.activeAt 9, 1, 152)] ∧
    [0#8, 1#8].map (fun wy => (({ lcdAt 0 0x02#8 9 with lcdc := 0xF1#8, wy := wy, wx := 7#8, winLine := 4 } :
      Lcd).recomputeWindow.cycleModes (fun _ => 0x00#8) 9).1.winLine) = [5, 4] := by decide +kernel

theorem witness_LcdOffAndOn :
    (busy.lcd.lcdc.getLsbD 7 = true ∧ (0x7F#8 : Byte).getLsbD 7 = false) ∧
    (Lcd.reset.next = .idle ∧ Lcd.reset.lcdc.getLsbD 7 = false) ∧
    ((lcdWith 0x80#8).next = .idle ∧ (lcdWith 0x80#8).lcdc.getLsbD 7 = true) := by decide

/-- Each of the twelve registers, with bit 7 of LCDC kept clear, set, and kept set. -/
theorem witness_LcdRegisterWrites :
    (∀ k ∈ List.range 12, k ≤ 11 ∧ (0xFF40#16 + BitVec.ofNat 16 k).toNat = 0xFF40 + k) ∧
    (State.reset.lcd.lcdc.getLsbD 7 = true → (0x00#8 : Byte).getLsbD 7 = true) ∧
    (State.reset.lcd.lcdc.getLsbD 7 = true → (0xFF#8 : Byte).getLsbD 7 = true) ∧
    (busy.lcd.lcdc.getLsbD 7 = true → (0x80#8 : Byte).getLsbD 7 = true) ∧
    Compose.windowActive 0x20#8 7#8 = true ∧ Compose.windowActive 0x20#8 166#8 = true ∧
    Compose.windowActive 0x20#8 6#8 = false ∧ Compose.windowActive 0x20#8 167#8 = false := by decide

/-- The first and the last visible line; the ends of the four ranges of n. -/
theorem witness_LcdLineTimeline :
    (∀ ly ∈ [0#8, 143#8], (lcdAt ly 0x02#8 (44 + 20)).mode.toNat = 2 ∧
      (lcdAt ly 0x02#8 (44 + 20)).next = .activeAt (44 + 20) ∧ (lcdAt ly 0x02#8 (44 + 20)).ly.toNat ≤ 143) ∧
    (∀ n ∈ [0, 19], n < 20) ∧ (∀ n ∈ [20, 62], 20 ≤ n ∧ n < 63) ∧ (∀ n ∈ [63, 113], 63 ≤ n ∧ n < 114) := by decide

/-- The four cases of the composition: a front pixel; the window; a behind pixel over an empty background; the
background, at the line's ends. -/
theorem witness_PixelPriority :
    (let read := (launch 0x0000 [] (m0 ++ entry 0 16#8 8#8 5#8 0x00#8)).busRead
     let front := Compose.layerPixel read (lcdWith 0x93#8)
      ((Compose.sortByX (Compose.selectSprites read (lcdWith 0x93#8))).filter fun sp => !sp.attr.getLsbD 7) 0
     front.painted = true) ∧
    (Compose.windowDrawn (Lcd.recomputeWindow { lcdWith 0xF1#8 with wx := 7#8 }) = true ∧ 7 ≤ 0 + 7 ∧ 7 ≤ 159 + 7) ∧
    (let read := (launch 0x0000 [] (m0 ++ entry 0 16#8 8#8 5#8 0x80#8)).busRead
     let behind := Compose.layerPixel read (lcdWith 0x93#8)
      ((Compose.sortByX (Compose.selectSprites read (lcdWith 0x93#8))).filter fun sp => sp.attr.getLsbD 7) 0
     behind.painted = true ∧ (Compose.backgroundPixel read (lcdWith 0x93#8) 0).painted = false) ∧
    Compose.windowDrawn (lcdWith 0x93#8) = false ∧
    ((lcdWith 0x93#8).lcdc.getLsbD 0 = true ∧ (lcdWith 0x92#8).lcdc.getLsbD 0 = false) ∧
    ((7 ≤ (7#8 : Byte).toNat ∧ (7#8 : Byte).toNat ≤ 0 + 7) ∧ 7 ≤ (166#8 : Byte).toNat ∧ (166#8 : Byte).toNat ≤ 159 + 7) ∧
    (let read := (launch 0x0000 [] m0).busRead
     planeIndex read true 0x9800 2 0 = 3 ∧ planeIndex read true 0x9800 0 0 = 0 ∧
     ∃ none some : Compose.Sprite, none = ⟨16#8, 9#8, 5#8, 0#8⟩ ∧ some = ⟨16#8, 8#8, 5#8, 0x10#8⟩ ∧
      [none, some] = [none] ++ some :: [] ∧ ¬spritePaints read (lcdWith 0x93#8) none 0 ∧
      spritePaints read (lcdWith 0x93#8) some 0 ∧ spriteIndex read (lcdWith 0x93#8) some 0 = 1) := by
  refine ⟨by decide +kernel, by decide +kernel, by decide +kernel, by decide +kernel, by decide, by decide,
    by decide +kernel, by decide +kernel, _, _, rfl, rfl, rfl, ?_, ?_, by decide +kernel⟩
  · exact fun h => absurd h.1 (by decide)
  · exact ⟨by decide, by decide, by decide +kernel⟩

/-- Eleven sprites on the line, of which ten are selected; and none with LCDC[1] = 0. -/
theorem witness_SpriteSelectionAndOrder :
    (let read := (launch 0x0000 [] ((List.range 11).flatMap fun i => entry i 16#8 (BitVec.ofNat 8 (20 - i)) 5#8 0#8)).busRead
     (Compose.selectSprites read (lcdWith 0x93#8)).length = 10 ∧
      ((Compose.sortByX (Compose.selectSprites read (lcdWith 0x93#8))).map fun sp => sp.x.toNat) =
        [11, 12, 13, 14, 15, 16, 17, 18, 19, 20]) ∧
    (lcdWith 0x91#8).lcdc.getLsbD 1 = false ∧ (lcdWith 0x93#8).lcdc.getLsbD 1 = true ∧
    (16 ≤ (lcdWith 0x93#8).ly.toNat + 16 ∧ (lcdWith 0x93#8).ly.toNat + 16 < 16 + 8) := by decide +kernel

/-- The first and last bit of a result, inside and outside the vector; the last byte of a line of two. -/
theorem witness_PixelDataLaws :
    0 < 32 ∧ 0 < 64 ∧ 63 < 64 ∧ (1 < 2 ∧ 15 < 8 * 2) ∧
    ∃ line : ImageLine (8 * 2), line = ((List.range 2).foldl (fun d j => d.setBytes j
      ((fun k => if k = 1 then 0x7E#8 else 0x55#8) j) ((fun k => if k = 1 then 0x3C#8 else 0x0F#8) j))
        (LineBuilder.empty (8 * 2))).build ∧ line.msbByte 1 = 0x7E#8 ∧ line.lsbByte 1 = 0x3C#8 :=
  ⟨by decide, by decide, by decide, by decide, _, rfl, by decide +kernel, by decide +kernel⟩

/-- The state right after the write of 0xC0 to 0xFF46 on FLAT. -/
def copying : State := (State.resetOn flatPlatform []).busWrite Config.regDma 0xC0#8

/-- On FLAT a store to a byte of OAM changes the read of no other address. -/
theorem oam_affects_nothing_else (k : Nat) (b : Word) (hk : k < 160) (hb : b.toNat ≠ 0xFE00 + k) :
    affects flatPlatform (0xFE00#16 + BitVec.ofNat 16 k) b = false := by
  obtain ⟨a, ha⟩ : ∃ a, a = 0xFE00#16 + BitVec.ofNat 16 k := ⟨_, rfl⟩
  have hn : a.toNat = 0xFE00 + k := by
    rw [ha, BitVec.toNat_add, BitVec.toNat_ofNat, BitVec.toNat_ofNat]
    omega
  have hr : ∀ c : Word, c.toNat < 0xFE00 ∨ 0xFEA0 ≤ c.toNat → a ≠ c := fun c hc h => by
    rw [h] at hn
    omega
  have hab : a ≠ b := fun h => hb (h ▸ hn)
  have hs : storageAffects flatPlatform a b = false := by
    simp only [storageAffects, flatPlatform, coreComponents, List.cons_append, List.nil_append, List.any_cons,
      List.any_nil, Component.keepsWrites, Component.cell?]
    have hv : ¬(0x8000 ≤ a.toNat ∧ a.toNat ≤ 0x9FFF) := by omega
    have ho : 0xFE00 ≤ a.toNat ∧ a.toNat ≤ 0xFE9F := by omega
    have hz : 0x0000 ≤ a.toNat ∧ a.toNat ≤ 0xFFFF := by omega
    have hzb : 0x0000 ≤ b.toNat ∧ b.toNat ≤ 0xFFFF := by have := b.isLt; omega
    simp only [if_neg hv, if_pos ho, if_pos hz, if_pos hzb]
    by_cases hv : 0x8000 ≤ b.toNat ∧ b.toNat ≤ 0x9FFF <;> by_cases ho : 0xFE00 ≤ b.toNat ∧ b.toNat ≤ 0xFE9F <;>
      simp [hv, ho] <;> omega
  have hd : ∀ c : Word, 0xFEA0 ≤ c.toNat → (a == c) = false := fun c hc => beq_eq_false_iff_ne.mpr (hr c (.inr hc))
  rw [← ha]
  simp only [affects, registerAffects, hs, beq_eq_false_iff_ne.mpr hab, hd Config.regDiv (by decide),
    hd Config.regTac (by decide), hd Config.regLcdc (by decide), hd Config.regLyc (by decide), Bool.false_and, Bool.or_self]

/-- A transfer's steps at offsets 0 and 159, and an idle engine. -/
theorem witness_DmaCopiesThePage_one_step :
    (copying.dma.active = true ∧ copying.dma.offset = 0 ∧ copying.dmaStep.dma = ⟨true, 0xC000#16, 1⟩) ∧
    (let s : State := { copying with dma := ⟨true, 0xC000#16, 159⟩ }
     s.dma.active = true ∧ s.dma.offset = 159 ∧ s.dmaStep.dma = ⟨false, 0xC000#16, 160⟩) ∧
    State.reset.dma.active = false := by decide +kernel

theorem witness_DmaCopiesThePage :
    copying.dma = Dma.start 0xC0#8 ∧
    (∀ k, k < 160 → plainByte copying.bus (0xFE00#16 + BitVec.ofNat 16 k) = true) ∧
    (∀ k j, k < j → j < 160 →
      affects copying.bus (0xFE00#16 + BitVec.ofNat 16 j) (0xFE00#16 + BitVec.ofNat 16 k) = false ∧
      affects copying.bus (0xFE00#16 + BitVec.ofNat 16 k) (BitVec.ofNat 16 (256 * (0xC0#8 : Byte).toNat + j)) = false) := by
  refine ⟨by decide +kernel, by decide +kernel, fun k j hkj hj => ?_⟩
  have hbus : copying.bus = flatPlatform := by decide +kernel
  rw [hbus]
  refine ⟨oam_affects_nothing_else j _ hj ?_, oam_affects_nothing_else k _ (by omega) ?_⟩
  · simp only [BitVec.toNat_add, BitVec.toNat_ofNat]
    omega
  · simp only [BitVec.toNat_ofNat]
    omega

end Sys2Proof.Tests
end

section
/-! SUPPORT. The host's actions before a cycle: a list of them, and each by itself (00_scope.md R9, 60_exceptions.md
R404). -/

namespace Sys2Proof.Machine

open Sys2Proof

theorem Component.setEnabled_of_not_overlay {d : Component} (h : ∀ b f l was, d ≠ .overlay b f l was) (on : Bool) :
    d.setEnabled on = d := by
  cases d with
  | overlay b f l was => exact absurd rfl (h b f l was)
  | _ => rfl

namespace State

theorem applyActions_iflag (now : List HostAction) (s : State) {j : Nat} (h3 : j ≠ 3) (h4 : j ≠ 4) :
    (now.foldl applyAction s).iflag.getLsbD j = s.iflag.getLsbD j := by
  induction now generalizing s with
  | nil => rfl
  | cons x now ih => rw [List.foldl_cons, ih, applyAction_iflag s x h3 h4]

theorem applyActions_coreKey (now : List HostAction) (s : State) {k : Nat} (h : coreKey k = true) :
    (now.foldl applyAction s).mem.read k = s.mem.read k := by
  induction now generalizing s with
  | nil => rfl
  | cons x now ih => rw [List.foldl_cons, ih, applyAction_coreKey s x h]

theorem applyInputs_nil {s : State} (h : s.hostInputs = []) : s.applyInputs = s := by
  simp only [applyInputs, h]

theorem applyInputs_cons {s : State} {now : List HostAction} {later : List (List HostAction)}
    (h : s.hostInputs = now :: later) : s.applyInputs = now.foldl applyAction { s with hostInputs := later } := by
  simp only [applyInputs, h]

theorem applyAction_setExternal_of_coreKey (s : State) {k : Nat} (h : coreKey k = true) (v : Byte) :
    s.applyAction (.setExternal k v) = s := if_pos h

/-- A change of an external byte changes the stored bytes alone. -/
theorem applyAction_setExternal_frame (s : State) (k : Nat) (v : Byte) :
    s.applyAction (.setExternal k v) = { s with mem := (s.applyAction (.setExternal k v)).mem } := by
  simp only [applyAction]
  split <;> rfl

/-- The overlay's switch, component by component. -/
theorem applyAction_enableOverlay_getElem? (s : State) (on : Bool) {i : Nat} {d : Component} (h : s.bus[i]? = some d) :
    (s.applyAction (.enableOverlay on)).bus[i]? = some (d.setEnabled on) := by
  simp [applyAction, h]

end State

end Sys2Proof.Machine
end

section
/-! SUPPORT. The cycle number: no device, no instruction and no dispatch writes it, so a step raises it by one and a
run of n steps by n (00_scope.md R8). One lemma per shared operation, then one per layer of the step. -/

namespace Sys2Proof.Machine

open Sys2Proof

namespace State

variable (s : State)

/-! ## The shared operations of the meanings -/

@[simp] theorem busWrite16_cycle (a v : Word) : (s.busWrite16 a v).cycle = s.cycle := by simp [busWrite16]

@[simp] theorem loadReg_cycle (r : Reg8) (v : Byte) (len n : Nat) : (s.loadReg r v len n).cycle = s.cycle := by
  simp [loadReg]
@[simp] theorem storeByte_cycle (a : Word) (v : Byte) (len n : Nat) : (s.storeByte a v len n).cycle = s.cycle := by
  simp [storeByte]
@[simp] theorem loadThenHL_cycle (a : Word) : (s.loadThenHL a).cycle = s.cycle := by simp [loadThenHL]
@[simp] theorem storeThenHL_cycle (a : Word) : (s.storeThenHL a).cycle = s.cycle := by simp [storeThenHL]

@[simp] theorem loadPair_cycle (p : Pair) (v : Word) : (s.loadPair p v).cycle = s.cycle := by simp [loadPair]
@[simp] theorem pushPair_cycle (q : StackPair) : (s.pushPair q).cycle = s.cycle := by simp [pushPair, push16_cycle]
@[simp] theorem popPair_cycle (q : StackPair) : (s.popPair q).cycle = s.cycle := by simp [popPair]

@[simp] theorem acc_cycle (op : AluOp) (v : Byte) (len n : Nat) : (s.acc op v len n).cycle = s.cycle := by
  cases op <;> rfl
@[simp] theorem setIncFlags_cycle (W : AluWord 8) : (s.setIncFlags W).cycle = s.cycle := rfl
@[simp] theorem setDecFlags_cycle (W : AluWord 8) : (s.setDecFlags W).cycle = s.cycle := rfl
@[simp] theorem incReg_cycle (r : Reg8) : (s.incReg r).cycle = s.cycle := by simp [incReg]
@[simp] theorem decReg_cycle (r : Reg8) : (s.decReg r).cycle = s.cycle := by simp [decReg]
@[simp] theorem addPair_cycle (p : Pair) : (s.addPair p).cycle = s.cycle := rfl
@[simp] theorem stepPair_cycle (p : Pair) (v : Word) : (s.stepPair p v).cycle = s.cycle := by simp [stepPair]

@[simp] theorem rotateA_cycle (W : AluWord 8) : (s.rotateA W).cycle = s.cycle := rfl
@[simp] theorem rotReg_cycle (op : RotOp) (r : Reg8) : (s.rotReg op r).cycle = s.cycle := by simp [rotReg]
@[simp] theorem rotMem_cycle (op : RotOp) : (s.rotMem op).cycle = s.cycle := by simp [rotMem]
@[simp] theorem bitTest_cycle (b : Fin 8) (v : Byte) (n : Nat) : (s.bitTest b v n).cycle = s.cycle := rfl
@[simp] theorem bitReg_cycle (r : Reg8) (v : Byte) : (s.bitReg r v).cycle = s.cycle := by simp [bitReg]
@[simp] theorem bitMem_cycle (v : Byte) : (s.bitMem v).cycle = s.cycle := by simp [bitMem]
@[simp] theorem prefixed_cycle (op2 : Byte) : (s.prefixed op2).cycle = s.cycle := by
  simp only [prefixed]
  split <;> simp

@[simp] theorem callTo_cycle (a : Word) (len n : Nat) : (s.callTo a len n).cycle = s.cycle := by
  simp [callTo, push16_cycle]
@[simp] theorem returnTo_cycle (n : Nat) : (s.returnTo n).cycle = s.cycle := rfl
@[simp] theorem returnFromInterrupt_cycle (n : Nat) : (s.returnFromInterrupt n).cycle = s.cycle := rfl
@[simp] theorem jumpIf_cycle (cc : Cond) (a : Word) : (s.jumpIf cc a).cycle = s.cycle := by
  simp only [jumpIf]; split <;> rfl
@[simp] theorem relativeIf_cycle (cc : Cond) (e : Byte) : (s.relativeIf cc e).cycle = s.cycle := by
  simp only [relativeIf]; split <;> rfl
@[simp] theorem callIf_cycle (cc : Cond) (a : Word) : (s.callIf cc a).cycle = s.cycle := by
  simp only [callIf]; split <;> simp
@[simp] theorem returnIf_cycle (cc : Cond) : (s.returnIf cc).cycle = s.cycle := by
  simp only [returnIf]; split <;> rfl

end State

/-- An instruction schedules by the cycle number but never writes it: each meaning is a shared operation above, or
ends in a fault. -/
theorem exec_cycle (i : Instr) {s t : State} (h : exec i s = .next t) : t.cycle = s.cycle := by
  cases i <;> cases h <;> simp

namespace State

/-! ## The devices -/

@[simp] theorem applyInputs_cycle (s : State) : s.applyInputs.cycle = s.cycle := by
  cases h : s.hostInputs with
  | nil => rw [applyInputs_nil h]
  | cons now later => rw [applyInputs_cons h, applyActions_frame]

@[simp] theorem dmaStep_cycle (s : State) : s.dmaStep.cycle = s.cycle := by
  simp only [dmaStep]
  split
  · exact s.busWrite_cycle _ _
  · rfl

@[simp] theorem devicesCycle_cycle (s : State) : s.devicesCycle.cycle = s.cycle := by
  simp [devicesCycle, timerCycle, lcdCycle, modesCycle]

/-! ## The CPU and the step -/

@[simp] theorem wake_cycle (s : State) : s.wake.cycle = s.cycle := by
  simp only [wake]; split <;> rfl

@[simp] theorem dispatchInterrupt_cycle (s : State) (k : Interrupt) : (s.dispatchInterrupt k).cycle = s.cycle := by
  simp [dispatchInterrupt, push16_cycle]

theorem unitOfWork_cycle {s t : State} (h : s.unitOfWork exec = .next t) : t.cycle = s.cycle := by
  simp only [unitOfWork] at h
  split at h
  · cases h
    exact s.dispatchInterrupt_cycle _
  · exact exec_cycle _ h

theorem cpuCycle_cycle {s t : State} (h : s.cpuCycle exec = .next t) : t.cycle = s.cycle := by
  simp only [cpuCycle] at h
  split at h
  · exact (unitOfWork_cycle h).trans s.wake_cycle
  · cases h
    exact s.wake_cycle

end State

/-- A step that answers a state is the CPU's cycle after the devices', with the next cycle number. -/
theorem step_eq_next {s t : State} (h : step s = .next t) :
    ∃ u, s.devicesCycle.cpuCycle exec = .next u ∧ t = u.nextCycle := by
  simp only [step, State.cycleWith] at h
  split at h
  · rename_i u hu
    cases h
    exact ⟨u, hu, rfl⟩
  · cases h
  · cases h

theorem step_cycle {s t : State} (h : step s = .next t) : t.cycle = s.cycle + 1 := by
  obtain ⟨u, hu, rfl⟩ := step_eq_next h
  rw [State.nextCycle_cycle, State.cpuCycle_cycle hu, State.devicesCycle_cycle]

namespace State

/-! ## The driving loop -/

theorem cyclesWith_cycle {n : Nat} {s t : State} (h : cyclesWith step n s = .next t) : t.cycle = s.cycle + n := by
  induction n generalizing s with
  | zero =>
    cases h
    rfl
  | succ n ih =>
    rw [cyclesWith] at h
    split at h
    · rename_i u hu
      rw [ih h, step_cycle hu]
      omega
    · cases h
    · cases h

theorem runUntil_past {s : State} {target : Nat} (h : target < s.cycle) : s.runUntil target = .refused .timeTravel :=
  if_pos h

theorem runUntil_of_le {s : State} {target : Nat} (h : s.cycle ≤ target) :
    s.runUntil target = cyclesWith step (target - s.cycle) s := if_neg (Nat.not_lt.mpr h)

theorem runUntil_here (s : State) : s.runUntil s.cycle = .next s := by
  rw [runUntil_of_le le_rfl, Nat.sub_self, cyclesWith]

/-- Below the target, `runUntil` is `cyclesWith` of one cycle less after a step. -/
theorem runUntil_of_lt {s : State} {target : Nat} (h : s.cycle < target) :
    s.runUntil target = cyclesWith step (target - (s.cycle + 1) + 1) s := by
  rw [runUntil_of_le h.le]
  congr 1
  omega

theorem runUntil_of_step {s t : State} {target : Nat} (h : s.cycle < target) (hs : step s = .next t) :
    s.runUntil target = t.runUntil target := by
  have ht : t.cycle = s.cycle + 1 := step_cycle hs
  rw [runUntil_of_lt h, cyclesWith, hs, runUntil_of_le (by omega), ht]

theorem runUntil_of_fault {s : State} {f : Fault} {target : Nat} (h : s.cycle < target) (hs : step s = .fault f) :
    s.runUntil target = .fault f := by
  rw [runUntil_of_lt h, cyclesWith, hs]

theorem runUntil_of_refused {s : State} {r : Refusal} {target : Nat} (h : s.cycle < target) (hs : step s = .refused r) :
    s.runUntil target = .refused r := by
  rw [runUntil_of_lt h, cyclesWith, hs]

/-- Any state the loop answers is at the target. -/
theorem runUntil_cycle {s t : State} {target : Nat} (h : s.runUntil target = .next t) : t.cycle = target := by
  by_cases hp : target < s.cycle
  · rw [runUntil_past hp] at h
    cases h
  · have hle : s.cycle ≤ target := Nat.not_lt.mp hp
    rw [runUntil_of_le hle] at h
    rw [cyclesWith_cycle h]
    omega

end State

/-- Settles O10: the host's actions by their lemmas, and the loop because a step raises the cycle number by one. -/
theorem runUntilStepsToTheTarget : Obligations.RunUntilStepsToTheTarget := by
  refine ⟨fun s => State.applyInputs_nil, fun s now later h => ?_, fun s => ⟨rfl, rfl⟩, fun s k v => ?_, ?_,
    fun s target => ⟨State.runUntil_past, ?_, fun h => ?_, fun t => State.runUntil_cycle⟩⟩
  · rw [State.applyInputs_cons h]
    exact ⟨rfl, State.applyActions_frame now _, fun j h3 h4 => State.applyActions_iflag now _ h3 h4,
      fun k hk => State.applyActions_coreKey now _ (coreKey_eq_true.mpr hk)⟩
  · refine ⟨s.applyAction_setExternal_frame k v, fun j hj => ?_,
      fun hk => s.applyAction_setExternal_of_coreKey (coreKey_eq_true.mpr hk) v, fun hv ho => ?_⟩
    · rw [State.applyAction_setExternal_read, if_neg fun h => hj h.2]
    · have hk : coreKey k = false := by
        rw [Bool.eq_false_iff, Ne, coreKey_eq_true]
        exact not_or.mpr ⟨hv, ho⟩
      rw [State.applyAction_setExternal_read, if_pos ⟨hk, rfl⟩]
  · rintro s t on rfl
    refine ⟨rfl, List.length_map _, fun i d hd => ⟨fun hn => ?_, ?_⟩⟩
    · rw [State.applyAction_enableOverlay_getElem? s on hd, Component.setEnabled_of_not_overlay hn]
    · rintro b f l was rfl
      exact State.applyAction_enableOverlay_getElem? s on hd
  · rintro rfl
    exact s.runUntil_here
  · cases hs : step s with
    | next t => exact State.runUntil_of_step h hs
    | fault f => exact State.runUntil_of_fault h hs
    | refused r => exact State.runUntil_of_refused h hs

end Sys2Proof.Machine
end

section
/-! SUPPORT. The CPU's cycle when its unit of work is due and no interrupt is taken (60_exceptions.md R406). -/

namespace Sys2Proof.Machine

open Sys2Proof

namespace State

theorem fetch_of_decode {s : State} {i : Instr} {rest : List Byte}
    (h : decode [s.busRead s.pc, s.busRead (s.pc + 1), s.busRead (s.pc + 2)] = .ok (i, rest)) : s.fetch = i :=
  decodeBytes_of_decode h

theorem unitOfWork_of_no_interrupt {run : Instr → State → Result} {s : State} (h : s.interruptTaken = none) :
    s.unitOfWork run = run s.fetch s := by
  simp only [unitOfWork, h]

theorem cpuCycle_of_due {run : Instr → State → Result} {s : State} (h : s.cpuNext = .activeAt s.cycle) :
    s.cpuCycle run = s.unitOfWork run := by
  simp only [cpuCycle, wake_of_active h, if_pos h]

/-- The devices' cycle, the mode machine's part written out. -/
theorem devicesCycle_eq {s w : State} {m : Lcd} {q : Byte} (hw : w = s.applyInputs.timerCycle.dmaStep)
    (hm : w.lcd.cycleModes w.busRead w.cycle = (m, q)) :
    s.devicesCycle = { w with lcd := m, iflag := w.iflag ||| q } := by
  subst hw
  exact congrArg (State.withLcd _) hm

end State

/-- Settles O6: a due CPU does not wake, takes no interrupt, and runs what it fetches. -/
theorem stepRunsTheDecodedInstruction : Obligations.StepRunsTheDecodedInstruction := by
  refine ⟨fun s w m q => State.devicesCycle_eq, fun s i rest hdue hquiet hdec => ?_⟩
  have hcpu : s.devicesCycle.cpuCycle exec = exec i s.devicesCycle := by
    rw [State.cpuCycle_of_due hdue, State.unitOfWork_of_no_interrupt (State.interruptTaken_eq_none hquiet),
      State.fetch_of_decode hdec]
  simp only [step, State.cycleWith, hcpu]
  cases exec i s.devicesCycle <;> rfl

end Sys2Proof.Machine
end

section
/-! SUPPORT. What an instruction can do, said once: writes of the CPU's registers and of the bus, then the end that
assigns PC and charges the unit of work (60_exceptions.md R409), IME being written by EI, RETI and DI alone. -/

namespace Sys2Proof.Machine

open Sys2Proof

namespace State

/-! ## Writes -/

/-- `t` comes from `s` by writes of the 8-bit registers, F, SP and the bus. -/
inductive Writes (s : State) : State → Prop where
  | refl : Writes s s
  | setReg {t : State} (r : Reg8) (v : Byte) : Writes s t → Writes s (t.setReg r v)
  | setF {t : State} (v : Byte) : Writes s t → Writes s (t.setF v)
  | setSP {t : State} (v : Word) : Writes s t → Writes s (t.setSP v)
  | busWrite {t : State} (a : Word) (v : Byte) : Writes s t → Writes s (t.busWrite a v)

namespace Writes

variable {s t : State}

/-- What every single write keeps, all of them keep. -/
theorem keeps {P : State → Prop} (h : Writes s t) (hs : P s) (hreg : ∀ u r v, P u → P (u.setReg r v))
    (hf : ∀ u v, P u → P (u.setF v)) (hsp : ∀ u v, P u → P (u.setSP v))
    (hbus : ∀ u a v, P u → P (u.busWrite a v)) : P t := by
  induction h with
  | refl => exact hs
  | setReg r v _ ih => exact hreg _ r v ih
  | setF v _ ih => exact hf _ v ih
  | setSP v _ ih => exact hsp _ v ih
  | busWrite a v _ ih => exact hbus _ a v ih

theorem ime (h : Writes s t) : t.ime = s.ime :=
  h.keeps (P := fun u => u.ime = s.ime) rfl (by simp) (by simp) (by simp) (by simp)

theorem cycle (h : Writes s t) : t.cycle = s.cycle :=
  h.keeps (P := fun u => u.cycle = s.cycle) rfl (by simp) (by simp) (by simp) (by simp)

theorem setBC (h : Writes s t) (v : Word) : Writes s (t.setBC v) := (h.setReg .B _).setReg .C _
theorem setDE (h : Writes s t) (v : Word) : Writes s (t.setDE v) := (h.setReg .D _).setReg .E _
theorem setHL (h : Writes s t) (v : Word) : Writes s (t.setHL v) := (h.setReg .H _).setReg .L _

theorem setPair (h : Writes s t) (p : Pair) (v : Word) : Writes s (t.setPair p v) := by
  cases p with
  | BC => exact h.setBC v
  | DE => exact h.setDE v
  | HL => exact h.setHL v
  | SP => exact h.setSP v

theorem setStackPair (h : Writes s t) (q : StackPair) (v : Word) : Writes s (t.setStackPair q v) := by
  cases q with
  | BC => exact h.setBC v
  | DE => exact h.setDE v
  | HL => exact h.setHL v
  | AF => exact (h.setReg .A _).setF _

theorem push16 (h : Writes s t) (v : Word) : Writes s (t.push16 v) := ((h.setSP _).busWrite _ _).busWrite _ _

end Writes

/-! ## The end of an instruction -/

/-- Writes, then an end that assigns PC and charges 1 to 6 cycles. -/
def Completes (s t : State) : Prop := ∃ u a n, Writes s u ∧ 1 ≤ n ∧ n ≤ 6 ∧ t = jump u a n

theorem Writes.jump {s u : State} (h : Writes s u) (a : Word) {n : Nat} (h1 : 1 ≤ n) (h6 : n ≤ 6) :
    Completes s (u.jump a n) := ⟨u, a, n, h, h1, h6, rfl⟩

theorem Writes.finish {s u : State} (h : Writes s u) (len : Nat) {n : Nat} (h1 : 1 ≤ n) (h6 : n ≤ 6) :
    Completes s (u.finish len n) := h.jump (u.pcNext len) h1 h6

theorem Completes.ime {s t : State} (h : Completes s t) : t.ime = s.ime := by
  obtain ⟨u, a, n, hu, -, -, rfl⟩ := h
  exact hu.ime

theorem Completes.cpuNext {s t : State} (h : Completes s t) :
    ∃ n, 1 ≤ n ∧ n ≤ 6 ∧ t.cpuNext = .activeAt (s.cycle + n) := by
  obtain ⟨u, a, n, hu, h1, h6, rfl⟩ := h
  exact ⟨n, h1, h6, by rw [jump_cpuNext, hu.cycle]⟩

variable (s : State)

@[simp] theorem completes_finish (len : Nat) {n : Nat} (h1 : 1 ≤ n) (h6 : n ≤ 6) : Completes s (s.finish len n) :=
  Writes.refl.finish len h1 h6
@[simp] theorem completes_jump (a : Word) {n : Nat} (h1 : 1 ≤ n) (h6 : n ≤ 6) : Completes s (s.jump a n) :=
  Writes.refl.jump a h1 h6

@[simp] theorem completes_loadReg (r : Reg8) (v : Byte) (len : Nat) {n : Nat} (h1 : 1 ≤ n) (h6 : n ≤ 6) :
    Completes s (s.loadReg r v len n) := (Writes.refl.setReg r v).finish len h1 h6
@[simp] theorem completes_storeByte (a : Word) (v : Byte) (len : Nat) {n : Nat} (h1 : 1 ≤ n) (h6 : n ≤ 6) :
    Completes s (s.storeByte a v len n) := (Writes.refl.busWrite a v).finish len h1 h6
@[simp] theorem completes_loadThenHL (v : Word) : Completes s (s.loadThenHL v) :=
  ((Writes.refl.setReg _ _).setHL v).finish 1 (by decide) (by decide)
@[simp] theorem completes_storeThenHL (v : Word) : Completes s (s.storeThenHL v) :=
  ((Writes.refl.busWrite _ _).setHL v).finish 1 (by decide) (by decide)

@[simp] theorem completes_loadPair (p : Pair) (v : Word) : Completes s (s.loadPair p v) :=
  (Writes.refl.setPair p v).finish 3 (by decide) (by decide)
@[simp] theorem completes_pushPair (q : StackPair) : Completes s (s.pushPair q) :=
  (Writes.refl.push16 _).finish 1 (by decide) (by decide)
@[simp] theorem completes_popPair (q : StackPair) : Completes s (s.popPair q) :=
  ((Writes.refl.setSP _).setStackPair q _).finish 1 (by decide) (by decide)

@[simp] theorem completes_acc (op : AluOp) (v : Byte) (len : Nat) {n : Nat} (h1 : 1 ≤ n) (h6 : n ≤ 6) :
    Completes s (s.acc op v len n) := by
  cases op with
  | cp => exact (Writes.refl.setF _).finish len h1 h6
  | _ => exact ((Writes.refl.setReg .A _).setF _).finish len h1 h6
@[simp] theorem completes_incReg (r : Reg8) : Completes s (s.incReg r) :=
  ((Writes.refl.setReg r _).setF _).finish 1 (by decide) (by decide)
@[simp] theorem completes_decReg (r : Reg8) : Completes s (s.decReg r) :=
  ((Writes.refl.setReg r _).setF _).finish 1 (by decide) (by decide)
@[simp] theorem completes_addPair (p : Pair) : Completes s (s.addPair p) :=
  ((Writes.refl.setHL _).setF _).finish 1 (by decide) (by decide)
@[simp] theorem completes_stepPair (p : Pair) (v : Word) : Completes s (s.stepPair p v) :=
  (Writes.refl.setPair p v).finish 1 (by decide) (by decide)

@[simp] theorem completes_rotateA (W : AluWord 8) : Completes s (s.rotateA W) :=
  ((Writes.refl.setReg .A _).setF _).finish 1 (by decide) (by decide)
@[simp] theorem completes_rotReg (op : RotOp) (r : Reg8) : Completes s (s.rotReg op r) :=
  ((Writes.refl.setReg r _).setF _).finish 2 (by decide) (by decide)
@[simp] theorem completes_rotMem (op : RotOp) : Completes s (s.rotMem op) :=
  ((Writes.refl.busWrite _ _).setF _).finish 2 (by decide) (by decide)
@[simp] theorem completes_bitTest (b : Fin 8) (v : Byte) {n : Nat} (h1 : 1 ≤ n) (h6 : n ≤ 6) :
    Completes s (s.bitTest b v n) := (Writes.refl.setF _).finish 2 h1 h6
@[simp] theorem completes_bitReg (r : Reg8) (v : Byte) : Completes s (s.bitReg r v) :=
  (Writes.refl.setReg r v).finish 2 (by decide) (by decide)
@[simp] theorem completes_bitMem (v : Byte) : Completes s (s.bitMem v) :=
  (Writes.refl.busWrite _ v).finish 2 (by decide) (by decide)
@[simp] theorem completes_prefixed (op2 : Byte) : Completes s (s.prefixed op2) := by
  simp only [prefixed]
  split <;> simp

@[simp] theorem completes_callTo (a : Word) (len : Nat) {n : Nat} (h1 : 1 ≤ n) (h6 : n ≤ 6) :
    Completes s (s.callTo a len n) := (Writes.refl.push16 _).jump a h1 h6
@[simp] theorem completes_returnTo {n : Nat} (h1 : 1 ≤ n) (h6 : n ≤ 6) : Completes s (s.returnTo n) :=
  (Writes.refl.setSP _).jump _ h1 h6
@[simp] theorem completes_jumpIf (cc : Cond) (a : Word) : Completes s (s.jumpIf cc a) := by
  simp only [jumpIf]; split <;> simp
@[simp] theorem completes_relativeIf (cc : Cond) (e : Byte) : Completes s (s.relativeIf cc e) := by
  simp only [relativeIf]; split <;> simp
@[simp] theorem completes_callIf (cc : Cond) (a : Word) : Completes s (s.callIf cc a) := by
  simp only [callIf]; split <;> simp
@[simp] theorem completes_returnIf (cc : Cond) : Completes s (s.returnIf cc) := by
  simp only [returnIf]; split <;> simp

end State

open State

/-- An instruction but the three that write IME and HALT, on each form one of the operations above. -/
theorem exec_completes (i : Instr) {s t : State} (h : exec i s = .next t) (hei : i ≠ .ei) (hdi : i ≠ .di)
    (hreti : i ≠ .reti) (hhalt : i ≠ .halt) : s.Completes t := by
  cases i
  case ei => exact absurd rfl hei
  case di => exact absurd rfl hdi
  case reti => exact absurd rfl hreti
  case halt => exact absurd rfl hhalt
  all_goals cases h
  case ld_mnn_SP.refl => exact ((Writes.refl.busWrite _ _).busWrite _ _).finish 3 (by decide) (by decide)
  case add_SP_e.refl => exact ((Writes.refl.setSP _).setF _).finish 2 (by decide) (by decide)
  case ld_HL_SPe.refl => exact ((Writes.refl.setHL _).setF _).finish 2 (by decide) (by decide)
  case ld_SP_HL.refl => exact (Writes.refl.setSP _).finish 1 (by decide) (by decide)
  case daa.refl | cpl.refl => exact ((Writes.refl.setReg .A _).setF _).finish 1 (by decide) (by decide)
  case scf.refl | ccf.refl => exact (Writes.refl.setF _).finish 1 (by decide) (by decide)
  case inc_mHL.refl | dec_mHL.refl => exact ((Writes.refl.busWrite _ _).setF _).finish 1 (by decide) (by decide)
  all_goals simp

/-- All an instruction can do: HALT moves PC and idles the CPU; any other completes, but for IME. -/
theorem exec_cases (i : Instr) {s t : State} (h : exec i s = .next t) :
    (i = .halt ∧ t = { s with pc := s.pcNext 1, cpuNext := .idle }) ∨
      (i ≠ .halt ∧ ∃ u, s.Completes u ∧ t = { u with ime := t.ime }) := by
  by_cases hhalt : i = .halt
  · subst hhalt
    cases h
    exact .inl ⟨rfl, rfl⟩
  refine .inr ⟨hhalt, ?_⟩
  by_cases hei : i = .ei
  · subst hei
    cases h
    exact ⟨s.finish 1 1, by simp, rfl⟩
  by_cases hdi : i = .di
  · subst hdi
    cases h
    exact ⟨s.finish 1 1, by simp, rfl⟩
  by_cases hreti : i = .reti
  · subst hreti
    cases h
    exact ⟨s.returnTo 4, by simp, rfl⟩
  exact ⟨t, exec_completes i h hei hdi hreti hhalt, rfl⟩

/-- Settles O12: EI, DI, RETI and HALT by their meanings, every other instruction because no write touches IME. -/
theorem onlyEiRetiDiWriteIme : Obligations.OnlyEiRetiDiWriteIme := by
  intro i s t h
  by_cases hei : i = .ei
  · subst hei
    cases h
    simp
  by_cases hreti : i = .reti
  · subst hreti
    cases h
    simp [returnFromInterrupt]
  by_cases hdi : i = .di
  · subst hdi
    cases h
    simp
  by_cases hhalt : i = .halt
  · subst hhalt
    cases h
    simp
  rw [if_neg (by simp [hei, hreti]), if_neg hdi]
  exact (exec_completes i h hei hdi hreti hhalt).ime

/-- Settles O13: the two ends of an instruction that `exec_cases` gives. -/
theorem onlyHaltIdles : Obligations.OnlyHaltIdles := by
  intro i s t h
  rcases exec_cases i h with ⟨rfl, ht⟩ | ⟨hhalt, u, hu, ht⟩
  · exact ⟨fun _ => by rw [ht], fun hne => absurd rfl hne⟩
  · refine ⟨fun he => absurd he hhalt, fun _ => ?_⟩
    rw [ht]
    exact hu.cpuNext

end Sys2Proof.Machine
end

section
/-! SUPPORT. The LCD controller's part of the invariant: what the rules write in STAT, where the mode machine stands
after each of its rules, and the writes of the registers (49_lcd_dma.md R347 to R352, R372, R373). -/

namespace Sys2Proof.Machine

open Sys2Proof

/-- The marker does not name a cycle before `c`. -/
def Sched.NotBefore (c : Nat) (x : Sched) : Prop := ∀ n, x = .activeAt n → c ≤ n

theorem Sched.notBefore_idle (c : Nat) : Sched.idle.NotBefore c := by rintro n ⟨⟩

theorem Sched.notBefore_activeAt {c n : Nat} (h : c ≤ n) : (Sched.activeAt n).NotBefore c := by
  rintro _ ⟨⟩
  exact h

namespace Lcd

/-! ## STAT: the mode in bits 1 and 0, the comparison in bit 2 -/

theorem setModeBits_mode (l : Lcd) (m : BitVec 2) : (l.setModeBits m).mode = m := by
  simp only [mode, setModeBits]
  ext j hj
  interval_cases j <;> simp

theorem setModeBits_compareBit (l : Lcd) (m : BitVec 2) : (l.setModeBits m).stat.getLsbD 2 = l.stat.getLsbD 2 := by
  simp [setModeBits]

/-- `compareLY()` writes STAT alone: it keeps the mode, and sets bit 2 only when LY = LYC. -/
theorem compareLy_spec (l : Lcd) : ∃ x, l.compareLy.1 = { l with stat := x } ∧ x.extractLsb' 0 2 = l.mode ∧
    (x.getLsbD 2 = true → l.ly = l.lyc) := by
  simp only [compareLy]
  split
  · rename_i h
    refine ⟨_, rfl, ?_, fun _ => h⟩
    rw [mode]
    ext j hj
    interval_cases j <;> simp
  · refine ⟨_, rfl, ?_, fun h => ?_⟩
    · rw [mode]
      ext j hj
      interval_cases j <;> simp
    · simp at h

theorem setLy_spec (l : Lcd) (v : Byte) : ∃ x, (l.setLy v).1 = { l with ly := v, stat := x } ∧
    x.extractLsb' 0 2 = l.mode ∧ (x.getLsbD 2 = true → v = l.lyc) := compareLy_spec { l with ly := v }

/-! ## Where the mode machine stands -/

/-- The invariant's bounds on the mode, LY and the window's counter of a running mode machine. -/
structure Place (mode : BitVec 2) (ly winLine : Nat) : Prop where
  range : ly ≤ 153
  vBlank : mode = 1#2 ↔ 144 ≤ ly
  windowLine : winLine ≤ 144 ∧ winLine ≤ ly + 1 ∧ (mode = 1#2 ∨ mode = 2#2 → winLine ≤ ly)

theorem Inv.place {l : Lcd} (h : l.Inv) (hn : l.next ≠ .idle) : Place l.mode l.ly.toNat l.winLine :=
  ⟨h.lyRange, h.vBlank hn, h.windowLine⟩

/-- A place on a visible line. -/
theorem place_visible {m : BitVec 2} {ly w : Nat} (hm : m ≠ 1#2) (hly : ly < 144) (hw : w ≤ ly + 1)
    (h2 : m = 2#2 → w ≤ ly) : Place m ly w where
  range := by omega
  vBlank := ⟨fun he => absurd he hm, fun hge => absurd hly (Nat.not_lt.mpr hge)⟩
  windowLine := ⟨by omega, hw, fun h => h.elim (fun he => absurd he hm) h2⟩

/-- A place in the vertical blank. -/
theorem place_vBlank {ly w : Nat} (hly : 144 ≤ ly) (hlast : ly ≤ 153) (hw : w ≤ 144) : Place 1#2 ly w where
  range := hlast
  vBlank := ⟨fun _ => hly, fun _ => rfl⟩
  windowLine := ⟨hw, by omega, fun _ => by omega⟩

theorem Place.visible {m : BitVec 2} {ly w : Nat} (h : Place m ly w) (hm : m ≠ 1#2) : ly < 144 :=
  Nat.not_le.mp fun hge => hm (h.vBlank.mpr hge)

theorem Place.inVBlank {ly w : Nat} (h : Place 1#2 ly w) : 144 ≤ ly := h.vBlank.mp rfl

/-- A running controller meets the invariant when its mode machine stands in its place. -/
theorem inv_of_running {l : Lcd} {n : Nat} {m : BitVec 2} (hnext : l.next = .activeAt n)
    (hon : l.lcdc.getLsbD 7 = true) (hmode : l.mode = m) (hplace : Place m l.ly.toNat l.winLine)
    (hcompare : l.stat.getLsbD 2 = true → l.ly = l.lyc) (hwindow : l.winActive = Compose.windowActive l.lcdc l.wx)
    (hframes : l.builder.length = 144 ∧ l.image.length = 144) : l.Inv where
  on _ := hon
  off hidle := by simp [hnext] at hidle
  lyRange := hplace.range
  vBlank _ := hmode ▸ hplace.vBlank
  compare := hcompare
  window := hwindow
  windowLine := hmode ▸ hplace.windowLine
  frames := hframes

/-- A change of mode keeps what the comparison's bit says. -/
theorem compare_setModeBits {l : Lcd} {m : BitVec 2} {P : Prop} (h : l.stat.getLsbD 2 = true → P)
    (hb : (l.setModeBits m).stat.getLsbD 2 = true) : P := h ((setModeBits_compareBit l m).symm.trans hb)

/-! ## The mode machine's rules (49_lcd_dma.md R348, R350) -/

section
variable {l : Lcd} (h : l.Inv) (hon : l.lcdc.getLsbD 7 = true) (c : Nat)
include h hon

theorem Inv.powerOn (hidle : l.next = .idle) : (l.powerOn c).1.Inv := by
  obtain ⟨hly, -, hwin⟩ := h.off hidle
  have hp : Place 2#2 l.ly.toNat l.winLine := by
    rw [hly, hwin]
    exact place_visible (by decide) (by decide) (Nat.zero_le _) (fun _ => Nat.zero_le _)
  exact inv_of_running rfl hon (setModeBits_mode l 2#2) hp (compare_setModeBits h.compare) h.window h.frames

theorem Inv.endMode2 (read : Word → Byte) (hp : Place 2#2 l.ly.toNat l.winLine) : (l.endMode2 read c).1.Inv := by
  have hly : l.ly.toNat < 144 := hp.visible (by decide)
  have hw : l.winLine ≤ l.ly.toNat := hp.windowLine.2.2 (.inr rfl)
  have hp' : ∀ drawn : Bool, Place 3#2 l.ly.toNat (if drawn then l.winLine + 1 else l.winLine) := fun drawn =>
    place_visible (by decide) hly (by split <;> omega) (fun he => absurd he (by decide))
  exact inv_of_running rfl hon (setModeBits_mode l 3#2) (hp' _) (compare_setModeBits h.compare) h.window
    ⟨List.length_set.trans h.frames.1, h.frames.2⟩

theorem Inv.endMode3 (hp : Place 3#2 l.ly.toNat l.winLine) : (l.endMode3 c).1.Inv := by
  have hp' : Place 0#2 l.ly.toNat l.winLine :=
    place_visible (by decide) (hp.visible (by decide)) hp.windowLine.2.1 (fun he => absurd he (by decide))
  exact inv_of_running rfl hon (setModeBits_mode l 0#2) hp' (compare_setModeBits h.compare) h.window h.frames

theorem Inv.endMode0 (hp : Place 0#2 l.ly.toNat l.winLine) : (l.endMode0 c).1.Inv := by
  have hly : l.ly.toNat < 144 := hp.visible (by decide)
  obtain ⟨hw144, hw, -⟩ := hp.windowLine
  by_cases hlast : l.ly = 143#8
  · obtain ⟨x, hx, -, hcmp⟩ := l.setLy_spec 144#8
    have hp' : Place 1#2 (144#8).toNat l.winLine := place_vBlank (by decide) (by decide) hw144
    simp only [Lcd.endMode0, if_pos hlast, enterMode, hx]
    exact inv_of_running rfl hon (setModeBits_mode _ 1#2) hp' (compare_setModeBits hcmp) h.window
      ⟨h.frames.1, h.frames.1⟩
  · obtain ⟨x, hx, -, hcmp⟩ := l.setLy_spec (l.ly + 1)
    have hnext : (l.ly + 1).toNat = l.ly.toNat + 1 := by bv_omega
    have hp' : Place 2#2 (l.ly + 1).toNat l.winLine :=
      place_visible (by decide) (by bv_omega) (by omega) (fun _ => by omega)
    simp only [Lcd.endMode0, if_neg hlast, enterMode, hx]
    exact inv_of_running rfl hon (setModeBits_mode _ 2#2) hp' (compare_setModeBits hcmp) h.window h.frames

theorem Inv.endMode1 (hp : Place 1#2 l.ly.toNat l.winLine) (hmode : l.mode = 1#2) : (l.endMode1 c).1.Inv := by
  have hly : 144 ≤ l.ly.toNat := hp.inVBlank
  by_cases hlast : l.ly = 153#8
  · obtain ⟨x, hx, -, hcmp⟩ := l.setLy_spec 0#8
    have hp' : Place 2#2 (0#8).toNat 0 :=
      place_visible (by decide) (by decide) (Nat.zero_le _) (fun _ => Nat.zero_le _)
    simp only [Lcd.endMode1, if_pos hlast, enterMode, hx]
    exact inv_of_running rfl hon (setModeBits_mode _ 2#2) hp' (compare_setModeBits hcmp) h.window
      ⟨List.length_replicate, h.frames.2⟩
  · obtain ⟨x, hx, hm, hcmp⟩ := l.setLy_spec (l.ly + 1)
    have hrange : l.ly.toNat ≤ 153 := hp.range
    have hp' : Place 1#2 (l.ly + 1).toNat l.winLine := place_vBlank (by bv_omega) (by bv_omega) hp.windowLine.1
    simp only [Lcd.endMode1, if_neg hlast, hx]
    exact inv_of_running rfl hon (hm.trans hmode) hp' hcmp h.window h.frames

/-- Each rule of the mode machine starts from the place of its mode. -/
theorem Inv.transition (read : Word → Byte) (hrun : l.next ≠ .idle) : (l.transition read c).1.Inv := by
  have hp : Place l.mode l.ly.toNat l.winLine := h.place hrun
  have hmodes : l.mode = 0#2 ∨ l.mode = 1#2 ∨ l.mode = 2#2 ∨ l.mode = 3#2 := by
    generalize l.mode = m
    revert m
    decide
  rcases hmodes with hm | hm | hm | hm <;> simp only [Lcd.transition, hm] at hp ⊢
  · exact h.endMode0 hon c hp
  · exact h.endMode1 hon c hp hm
  · exact h.endMode2 hon c read hp
  · exact h.endMode3 hon c hp

end

theorem Inv.cycleModes {l : Lcd} (h : l.Inv) (read : Word → Byte) (c : Nat) : (l.cycleModes read c).1.Inv := by
  simp only [Lcd.cycleModes]
  split
  · rename_i hidle
    split
    · exact h.powerOn ‹_› c hidle
    · exact h
  · rename_i n hn
    have hrun : l.next ≠ .idle := by simp [hn]
    split
    · exact h.transition (h.on hrun) c read hrun
    · exact h

/-- A rule of the mode machine schedules a later cycle. -/
theorem transition_next (read : Word → Byte) (c : Nat) (l : Lcd) :
    ∃ k, 1 ≤ k ∧ (l.transition read c).1.next = .activeAt (c + k) := by
  simp only [Lcd.transition]
  split
  · exact ⟨Config.mode3Cycles, by decide, rfl⟩
  · exact ⟨Config.mode0Cycles, by decide, rfl⟩
  · simp only [Lcd.endMode0]
    split
    · exact ⟨Config.lineCycles, by decide, rfl⟩
    · exact ⟨Config.mode2Cycles, by decide, rfl⟩
  · simp only [Lcd.endMode1]
    split
    · exact ⟨Config.mode2Cycles, by decide, rfl⟩
    · exact ⟨Config.lineCycles, by decide, rfl⟩

/-- After the mode machine's part of a cycle its marker is past that cycle. -/
theorem cycleModes_notBefore {l : Lcd} {c : Nat} (h : l.next.NotBefore c) (read : Word → Byte) :
    (l.cycleModes read c).1.next.NotBefore (c + 1) := by
  simp only [Lcd.cycleModes]
  split
  · rename_i hidle
    split
    · exact Sched.notBefore_activeAt (Nat.add_le_add_left (by decide) c)
    · rw [hidle]
      exact Sched.notBefore_idle _
  · rename_i n hn
    split
    · obtain ⟨k, hk, heq⟩ := l.transition_next read c
      rw [heq]
      exact Sched.notBefore_activeAt (Nat.add_le_add_left hk c)
    · rename_i hne
      have hle : c ≤ n := h n hn
      rw [hn]
      exact Sched.notBefore_activeAt (by omega)

/-! ## The registers' writes (49_lcd_dma.md R345, R347, R372) -/

theorem inv_of_idle {l : Lcd} (hnext : l.next = .idle) (hly : l.ly = 0#8) (hmode : l.mode = 0#2)
    (hwin : l.winLine = 0) (hcompare : l.stat.getLsbD 2 = true → l.ly = l.lyc)
    (hwindow : l.winActive = Compose.windowActive l.lcdc l.wx)
    (hframes : l.builder.length = 144 ∧ l.image.length = 144) : l.Inv where
  on hrun := absurd hnext hrun
  off _ := ⟨hly, hmode, hwin⟩
  lyRange := by simp [hly]
  vBlank hrun := absurd hnext hrun
  compare := hcompare
  window := hwindow
  windowLine := by simp [hwin]
  frames := hframes

/-- STAT and LYC may be written as long as the mode stays and the comparison's bit is right. -/
theorem Inv.setLycStat {l : Lcd} (h : l.Inv) {v x : Byte} (hmode : x.extractLsb' 0 2 = l.mode)
    (hcompare : x.getLsbD 2 = true → l.ly = v) : ({ l with lyc := v, stat := x } : Lcd).Inv := by
  have hm : ({ l with lyc := v, stat := x } : Lcd).mode = l.mode := hmode
  exact { h with
    off := hm ▸ h.off
    vBlank := hm ▸ h.vBlank
    compare := hcompare
    windowLine := hm ▸ h.windowLine }

theorem Inv.writeLcdc {l : Lcd} (h : l.Inv) (v : Byte) : (l.writeLcdc v).1.Inv := by
  by_cases hoff : (l.lcdc.getLsbD 7 && !v.getLsbD 7) = true
  · obtain ⟨x, hx, hm, hcmp⟩ := (({ l with lcdc := v } : Lcd).setModeBits 0#2).setLy_spec 0#8
    simp only [Lcd.writeLcdc, if_pos hoff, Lcd.powerOff, hx]
    exact inv_of_idle rfl rfl (hm.trans (setModeBits_mode _ _)) rfl hcmp rfl ⟨List.length_replicate, h.frames.2⟩
  · simp only [Lcd.writeLcdc, if_neg hoff]
    have hon : l.next ≠ .idle → v.getLsbD 7 = true := fun hrun => by simpa [h.on hrun] using hoff
    exact { h with on := hon, window := rfl }

theorem Inv.writeReg {l : Lcd} (h : l.Inv) (r : LcdReg) (v : Byte) : (l.writeReg r v).1.Inv := by
  cases r with
  | lcdc => exact h.writeLcdc v
  | stat =>
    refine h.setLycStat (v := l.lyc) ?_ fun hb => h.compare (by simpa using hb)
    rw [mode]
    ext j hj
    interval_cases j <;> simp
  | lyc =>
    obtain ⟨x, hx, hm, hcmp⟩ := ({ l with lyc := v } : Lcd).compareLy_spec
    simp only [Lcd.writeReg, hx]
    exact h.setLycStat hm hcmp
  | wx => exact { h with window := rfl }
  | _ => exact { h with }

theorem Inv.write {l : Lcd} (h : l.Inv) (a : Word) (v : Byte) : (l.write a v).1.Inv := by
  simp only [Lcd.write]
  split
  · exact h.writeReg _ v
  · exact h

/-- A write never schedules the mode machine: it leaves the marker or turns it off. -/
theorem writeReg_next (l : Lcd) (r : LcdReg) (v : Byte) :
    (l.writeReg r v).1.next = l.next ∨ (l.writeReg r v).1.next = .idle := by
  cases r with
  | lcdc =>
    simp only [Lcd.writeReg, Lcd.writeLcdc]
    split
    · exact .inr rfl
    · exact .inl rfl
  | lyc =>
    obtain ⟨x, hx, -⟩ := ({ l with lyc := v } : Lcd).compareLy_spec
    simp only [Lcd.writeReg, hx, true_or]
  | _ => exact .inl rfl

theorem write_notBefore {l : Lcd} {c : Nat} (h : l.next.NotBefore c) (a : Word) (v : Byte) :
    (l.write a v).1.next.NotBefore c := by
  simp only [Lcd.write]
  split
  · rename_i r _
    rcases l.writeReg_next r v with he | he <;> rw [he]
    · exact h
    · exact Sched.notBefore_idle c
  · exact h

end Lcd

end Sys2Proof.Machine
end

section
/-! SUPPORT. The machine's invariant through a cycle: the part that no schedule of the CPU touches, kept by every write,
every device and every instruction, then the CPU's marker (60_exceptions.md R406, 70_reset_and_hazards.md R449). -/

namespace Sys2Proof.Machine

open Sys2Proof

theorem Dma.inv_start (v : Byte) : (Dma.start v).Inv where
  page := by simp [Dma.start]
  range := Nat.zero_le _
  going _ := by simp [Dma.start]

theorem Dma.Inv.advance {d : Dma} (h : d.Inv) (hactive : d.active = true) : (State.dmaAdvance d).Inv where
  page := h.page
  range := h.going hactive
  going hstill := by
    have hlt : d.offset < 160 := h.going hactive
    have hne : d.offset + 1 ≠ 160 := of_decide_eq_true (Bool.and_eq_true_iff.mp hstill).2
    show d.offset + 1 < 160
    omega

namespace State

/-! ## The invariant without the CPU's marker -/

/-- The invariant but for the CPU's marker, the mode machine being due at cycle `c` or later. -/
structure Sound (c : Nat) (s : State) : Prop where
  flags : s.regs.f.toNat % 16 = 0
  memory : s.mem.wf
  lcdTime : s.lcd.next.NotBefore c
  lcd : s.lcd.Inv
  dma : s.dma.Inv

theorem inv_iff (s : State) : s.Inv ↔ s.Sound s.cycle ∧ s.cpuNext.NotBefore s.cycle :=
  ⟨fun h => ⟨⟨h.flags, h.memory, h.lcdTime, h.lcd, h.dma⟩, h.cpuTime⟩,
    fun ⟨h, hcpu⟩ => ⟨h.flags, h.memory, hcpu, h.lcdTime, h.lcd, h.dma⟩⟩

/-! ## What one component's write does to the LCD controller and the DMA engine -/

theorem componentWrite_lcd (s : State) (d : Component) (a : Word) (v : Byte) :
    (s.componentWrite d a v).lcd = s.lcd ∨ (s.componentWrite d a v).lcd = (s.lcd.write a v).1 := by
  cases d with
  | lcd => exact .inr (by simp only [componentWrite]; split <;> rfl)
  | _ => exact .inl (by simp only [componentWrite] <;> (repeat' split) <;> rfl)

theorem componentWrite_dma (s : State) (d : Component) (a : Word) (v : Byte) :
    (s.componentWrite d a v).dma = s.dma ∨ (s.componentWrite d a v).dma = Dma.start v := by
  cases d with
  | lcd =>
    simp only [componentWrite]
    split
    · exact .inr rfl
    · exact .inl rfl
  | _ => exact .inl (by simp only [componentWrite] <;> (repeat' split) <;> rfl)

/-! ## Writes and instructions -/

namespace Sound

variable {c : Nat} {s t : State}

/-- Changes elsewhere in the state. -/
theorem of_same (h : s.Sound c) (hf : t.regs.f = s.regs.f) (hm : t.mem = s.mem) (hl : t.lcd = s.lcd)
    (hd : t.dma = s.dma) : t.Sound c :=
  ⟨hf ▸ h.flags, hm ▸ h.memory, hl ▸ h.lcdTime, hl ▸ h.lcd, hd ▸ h.dma⟩

theorem componentWrite (h : s.Sound c) (d : Component) (a : Word) (v : Byte) : (s.componentWrite d a v).Sound c where
  flags := by rw [componentWrite_regs]; exact h.flags
  memory := wf_componentWrite h.memory d a v
  lcdTime := by
    rcases s.componentWrite_lcd d a v with he | he <;> rw [he]
    · exact h.lcdTime
    · exact Lcd.write_notBefore h.lcdTime a v
  lcd := by
    rcases s.componentWrite_lcd d a v with he | he <;> rw [he]
    · exact h.lcd
    · exact h.lcd.write a v
  dma := by
    rcases s.componentWrite_dma d a v with he | he <;> rw [he]
    · exact h.dma
    · exact Dma.inv_start v

theorem busWrite (h : s.Sound c) (a : Word) (v : Byte) : (s.busWrite a v).Sound c :=
  busWrite_induct (P := Sound c) s (fun _ d _ ht => ht.componentWrite d a v) h

theorem setF (h : s.Sound c) (v : Byte) : (s.setF v).Sound c :=
  { h with flags := masked_toNat_mod v }

theorem writes (h : s.Sound c) (hw : Writes s t) : t.Sound c :=
  hw.keeps h (fun _ _ _ hu => hu.of_same (by simp) (by simp) (by simp) (by simp)) (fun _ v hu => hu.setF v)
    (fun _ _ hu => hu.of_same rfl rfl rfl rfl) (fun _ a v hu => hu.busWrite a v)

theorem completes (h : s.Sound c) (hc : Completes s t) : t.Sound c := by
  obtain ⟨u, a, n, hw, -, -, rfl⟩ := hc
  exact (h.writes hw).of_same rfl rfl rfl rfl

theorem exec {i : Instr} (h : s.Sound c) (he : exec i s = .next t) : t.Sound c := by
  rcases exec_cases i he with ⟨-, ht⟩ | ⟨-, u, hu, ht⟩
  · rw [ht]
    exact h.of_same rfl rfl rfl rfl
  · rw [ht]
    exact (h.completes hu).of_same rfl rfl rfl rfl

/-! ## The devices -/

theorem applyInputs (h : s.Sound c) : s.applyInputs.Sound c := by
  cases hin : s.hostInputs with
  | nil => rwa [applyInputs_nil hin]
  | cons now later =>
    rw [applyInputs_cons hin]
    refine List.foldlRecOn (motive := Sound c) now applyAction (h.of_same rfl rfl rfl rfl) fun u hu x _ => ?_
    rw [applyAction_frame u x]
    exact { hu with memory := wf_applyAction hu.memory x }

theorem dmaStep (h : s.Sound c) : s.dmaStep.Sound c := by
  simp only [State.dmaStep]
  split
  · rename_i hactive
    rw [busWrite_oam s (h.dma.going hactive)]
    exact { h with memory := wf_busWrite h.memory _ _, dma := h.dma.advance hactive }
  · exact h

theorem modesCycle (h : s.Sound s.cycle) : s.modesCycle.Sound (s.cycle + 1) :=
  { h with
    lcdTime := Lcd.cycleModes_notBefore h.lcdTime s.busRead
    lcd := h.lcd.cycleModes s.busRead s.cycle }

/-- After the devices' part of a cycle the mode machine is due in a later one. -/
theorem devicesCycle (h : s.Sound s.cycle) : s.devicesCycle.Sound (s.cycle + 1) := by
  have hdma : s.applyInputs.timerCycle.dmaStep.Sound s.cycle :=
    (h.applyInputs.of_same rfl rfl rfl rfl : s.applyInputs.timerCycle.Sound s.cycle).dmaStep
  have hcycle : s.applyInputs.timerCycle.dmaStep.cycle = s.cycle := by simp [timerCycle]
  rw [← hcycle] at hdma ⊢
  exact hdma.modesCycle

end Sound

/-! ## The CPU's marker -/

@[simp] theorem applyInputs_cpuNext (s : State) : s.applyInputs.cpuNext = s.cpuNext := by
  cases h : s.hostInputs with
  | nil => rw [applyInputs_nil h]
  | cons now later => rw [applyInputs_cons h, applyActions_frame]

@[simp] theorem dmaStep_cpuNext (s : State) : s.dmaStep.cpuNext = s.cpuNext := by
  simp only [dmaStep]
  split
  · exact s.busWrite_cpuNext _ _
  · rfl

@[simp] theorem devicesCycle_cpuNext (s : State) : s.devicesCycle.cpuNext = s.cpuNext := by
  simp [devicesCycle, timerCycle, lcdCycle, modesCycle]

theorem Completes.notBefore {s t : State} (h : Completes s t) : t.cpuNext.NotBefore (s.cycle + 1) := by
  obtain ⟨n, h1, -, he⟩ := h.cpuNext
  rw [he]
  exact Sched.notBefore_activeAt (by omega)

/-- Dispatching is a push and a jump, once IME and the kind's bit of IF are cleared. -/
theorem completes_dispatchInterrupt (s : State) (k : Interrupt) :
    Completes { s with ime := false, iflag := s.iflag &&& ~~~k.bit } (s.dispatchInterrupt k) :=
  (Writes.refl.push16 _).jump _ (by decide) (by decide)

theorem exec_notBefore {i : Instr} {s t : State} (h : exec i s = .next t) : t.cpuNext.NotBefore (s.cycle + 1) := by
  rcases exec_cases i h with ⟨-, ht⟩ | ⟨-, u, hu, ht⟩ <;> rw [ht]
  · exact Sched.notBefore_idle _
  · exact hu.notBefore

/-- A unit of work keeps the invariant and leaves the CPU idle or due in a later cycle. -/
theorem unitOfWork_sound {c : Nat} {s t : State} (h : s.Sound c) (hw : s.unitOfWork exec = .next t) :
    t.Sound c ∧ t.cpuNext.NotBefore (s.cycle + 1) := by
  simp only [unitOfWork] at hw
  split at hw
  · rename_i k _
    cases hw
    have hd := s.completes_dispatchInterrupt k
    have hs : State.Sound c { s with ime := false, iflag := s.iflag &&& ~~~k.bit } := h.of_same rfl rfl rfl rfl
    exact ⟨hs.completes hd, hd.notBefore⟩
  · exact ⟨h.exec hw, exec_notBefore hw⟩

theorem wake_sound {c : Nat} {s : State} (h : s.Sound c) : s.wake.Sound c := by
  simp only [wake]
  split
  · exact h.of_same rfl rfl rfl rfl
  · exact h

theorem wake_notBefore {s : State} (h : s.cpuNext.NotBefore s.cycle) : s.wake.cpuNext.NotBefore s.cycle := by
  simp only [wake]
  split
  · exact Sched.notBefore_activeAt le_rfl
  · exact h

theorem cpuCycle_sound {c : Nat} {s t : State} (h : s.Sound c) (hcpu : s.cpuNext.NotBefore s.cycle)
    (hc : s.cpuCycle exec = .next t) : t.Sound c ∧ t.cpuNext.NotBefore (s.cycle + 1) := by
  simp only [cpuCycle] at hc
  split at hc
  · have := unitOfWork_sound (wake_sound h) hc
    rwa [wake_cycle] at this
  · rename_i hwait
    cases hc
    refine ⟨wake_sound h, fun n hn => ?_⟩
    have hle : s.cycle ≤ n := wake_notBefore hcpu n hn
    have hne : n ≠ s.cycle := fun he => hwait (he ▸ hn)
    omega

end State

/-- Settles O11: the devices keep the invariant and move the mode machine's marker past the cycle, then the CPU keeps it
and moves its own. -/
theorem stepKeepsInvariant : Obligations.StepKeepsInvariant := by
  intro s t h hstep
  obtain ⟨hsound, hcpu⟩ := s.inv_iff.mp h
  obtain ⟨u, hu, rfl⟩ := step_eq_next hstep
  have hcpu' : s.devicesCycle.cpuNext.NotBefore s.devicesCycle.cycle := by simpa using hcpu
  obtain ⟨husound, hucpu⟩ := State.cpuCycle_sound hsound.devicesCycle hcpu' hu
  have hcycle : u.cycle = s.cycle := by rw [State.cpuCycle_cycle hu, State.devicesCycle_cycle]
  rw [State.devicesCycle_cycle] at hucpu
  rw [State.inv_iff, State.nextCycle_cycle, hcycle]
  exact ⟨husound.of_same rfl rfl rfl rfl, hucpu⟩

end Sys2Proof.Machine
end

section
/-! SUPPORT. Canonical memories are determined by what they read (log entry 4). -/

namespace Sys2Proof.Machine

open Sys2Proof

namespace Memory

theorem read_head (c : Host.Cell) (m : Memory) : read (c :: m) c.1 = c.2 := by rw [read_cons, if_pos rfl]

theorem read_cons_of_lt {c : Host.Cell} {m : Memory} {k : Nat} (h : k < c.1) (hm : wf (c :: m)) :
    read (c :: m) k = fill :=
  read_of_forall_lt fun d hd => by
    rcases List.mem_cons.mp hd with rfl | hd
    · exact h
    · exact h.trans (head_lt hm d hd)

/-- Of two canonical memories that read the same neither starts below the other, where the other reads as the fill. -/
theorem head_le_of_read_eq {c d : Host.Cell} {m n : Memory} (hm : wf (c :: m)) (hn : wf (d :: n))
    (h : ∀ k, read (c :: m) k = read (d :: n) k) : d.1 ≤ c.1 := by
  by_contra hlt
  have hfill : c.2 = fill := by rw [← read_head c m, h, read_cons_of_lt (Nat.not_le.mp hlt) hn]
  exact hm.2 c (by simp) hfill

theorem read_tail_of_read_eq {c : Host.Cell} {m n : Memory} (hm : wf (c :: m)) (hn : wf (c :: n))
    (h : ∀ k, read (c :: m) k = read (c :: n) k) (k : Nat) : read m k = read n k := by
  by_cases hk : c.1 = k
  · subst hk
    rw [read_of_forall_lt (head_lt hm), read_of_forall_lt (head_lt hn)]
  · have := h k
    rwa [read_cons, read_cons, if_neg hk, if_neg hk] at this

theorem exists_read_ne_nil {c : Host.Cell} {m : Memory} (hm : wf (c :: m)) : ∃ k, read (c :: m) k ≠ read [] k :=
  ⟨c.1, by rw [read_head]; exact hm.2 c (by simp)⟩

/-- Extensionality of the canonical form. -/
theorem ext_of_wf {m n : Memory} (hm : m.wf) (hn : n.wf) (h : ∀ k, m.read k = n.read k) : m = n := by
  induction m generalizing n with
  | nil =>
    cases n with
    | nil => rfl
    | cons d n =>
      obtain ⟨k, hk⟩ := exists_read_ne_nil hn
      exact absurd (h k).symm hk
  | cons c m ih =>
    cases n with
    | nil =>
      obtain ⟨k, hk⟩ := exists_read_ne_nil hm
      exact absurd (h k) hk
    | cons d n =>
      have hkey : c.1 = d.1 :=
        le_antisymm (head_le_of_read_eq hn hm fun k => (h k).symm) (head_le_of_read_eq hm hn h)
      have hcell : c = d := Prod.ext hkey (by rw [← read_head c m, h, hkey, read_head])
      subst hcell
      rw [ih (wf_tail hm) (wf_tail hn) (read_tail_of_read_eq hm hn h)]

theorem write_comm {m : Memory} (h : m.wf) {k j : Nat} (hne : j ≠ k) (v w : Byte) :
    (m.write k v).write j w = (m.write j w).write k v := by
  refine ext_of_wf (wf_write (wf_write h k v) j w) (wf_write (wf_write h j w) k v) fun i => ?_
  simp only [read_write]
  split_ifs with hj hk
  · exact absurd (hj.symm.trans hk) hne
  all_goals rfl

theorem write_write {m : Memory} (h : m.wf) (k : Nat) (v w : Byte) : (m.write k v).write k w = m.write k w := by
  refine ext_of_wf (wf_write (wf_write h k v) k w) (wf_write h k w) fun i => ?_
  simp only [read_write]
  split_ifs <;> rfl

end Memory

/-- Settles O49: extensionality, then both laws read key by key. -/
theorem canonicalMemory : Obligations.CanonicalMemory :=
  ⟨fun _ _ hm hn h => Memory.ext_of_wf hm hn h,
    fun _ k _ v w hm => ⟨fun hne => Memory.write_comm hm hne v w, Memory.write_write hm k v w⟩⟩

end Sys2Proof.Machine
end

section
/-! SUPPORT. The pairs of registers, and IF and IE on the bus (10_state.md R21, R29, R30). -/

namespace Sys2Proof.Machine

open Sys2Proof

/-- Settles O17: each pair is one word of two bytes, and a write of it is two register writes. -/
theorem pairsAreTheirRegisters : Obligations.PairsAreTheirRegisters := by
  intro s v
  refine ⟨wordOf_toNat _ _, wordOf_toNat _ _, wordOf_toNat _ _, wordOf_toNat _ _, s.pair_setPair .BC v,
    s.pair_setPair .DE v, s.pair_setPair .HL v, s.stackPair_setStackPair .AF v, rfl, rfl, rfl, rfl⟩

namespace State

/-- At the address of IF or IE every component but the CPU changes stored bytes at most. -/
theorem componentWrite_at_cpuRegister {a : Word} (ha : Component.cpu.owns a = true) {d : Component} (hd : d ≠ .cpu)
    (s : State) (v : Byte) : ∃ m, s.componentWrite d a v = { s with mem := m } := by
  have hregs : a = Config.regIf ∨ a = Config.regIe := by simpa [Component.owns] using ha
  have hdev : Component.timer.owns a = false ∧ Component.lcd.owns a = false := by
    rcases hregs with rfl | rfl <;> decide
  cases hk : d.keepsWrites
  · cases d <;> simp only [Component.keepsWrites, reduceCtorEq] at hk
    case cpu => exact absurd rfl hd
    case timer => exact ⟨_, componentWrite_of_not_owns hdev.1 s v⟩
    case lcd => exact ⟨_, componentWrite_of_not_owns hdev.2 s v⟩
    case rom | overlay => exact ⟨_, rfl⟩
  · rcases componentWrite_storage hk s a v with he | ⟨k, -, he⟩
    · exact ⟨_, he⟩
    · exact ⟨_, he⟩

/-- A write at the address of IF or IE is the CPU component's write, up to stored bytes. -/
theorem busWrite_cpuRegister {s u : State} {a : Word} {v : Byte} {rest : List Component}
    (ha : Component.cpu.owns a = true) (hbus : s.bus = .cpu :: rest) (hu : s.componentWrite .cpu a v = u)
    (hagain : ∀ m, ({ u with mem := m } : State).componentWrite .cpu a v = { u with mem := m }) :
    ∃ m, s.busWrite a v = { u with mem := m } := by
  rw [busWrite, hbus, List.foldl_cons, hu]
  refine foldl_componentWrite_induct (P := fun t => ∃ m, t = { u with mem := m }) ?_ u ⟨u.mem, rfl⟩
  rintro _ d - ⟨m, rfl⟩
  by_cases hd : d = .cpu
  · subst hd
    exact ⟨m, hagain m⟩
  · obtain ⟨m', he⟩ := componentWrite_at_cpuRegister ha hd { u with mem := m } v
    exact ⟨m', he⟩

variable {s : State} {rest : List Component}

theorem busWrite_regIf (hbus : s.bus = .cpu :: rest) (v : Byte) :
    ∃ m, s.busWrite Config.regIf v = { s with iflag := v, mem := m } :=
  busWrite_cpuRegister (u := { s with iflag := v }) (by decide) hbus rfl fun _ => rfl

theorem busWrite_regIe (hbus : s.bus = .cpu :: rest) (v : Byte) :
    ∃ m, s.busWrite Config.regIe v = { s with ie := v, mem := m } :=
  busWrite_cpuRegister (u := { s with ie := v }) (by decide) hbus rfl fun _ => rfl

theorem busRead_regIf (hbus : s.bus = .cpu :: rest) : s.busRead Config.regIf = s.iflag := by
  rw [busRead, hbus]
  rfl

theorem busRead_regIe (hbus : s.bus = .cpu :: rest) : s.busRead Config.regIe = s.ie := by
  rw [busRead, hbus]
  rfl

end State

/-- Settles O47: the CPU component is first on the bus and answers IF and IE; a write there is its own, up to stored
bytes. -/
theorem cpuRegistersOnTheBus : Obligations.CpuRegistersOnTheBus := by
  rintro s v ⟨ext, hbus, -⟩
  obtain ⟨m, hif⟩ := State.busWrite_regIf hbus v
  obtain ⟨n, hie⟩ := State.busWrite_regIe hbus v
  refine ⟨State.busRead_regIf hbus, State.busRead_regIe hbus, by rw [hif], by rw [hie], by rw [hif], by rw [hie], ?_⟩
  rintro a (rfl | rfl)
  · rw [hif]
    exact ⟨rfl, rfl, rfl, rfl, rfl, rfl⟩
  · rw [hie]
    exact ⟨rfl, rfl, rfl, rfl, rfl, rfl⟩

end Sys2Proof.Machine
end

section
/-! SUPPORT. The reset state and a launch (10_state.md R50, 70_reset_and_hazards.md R440 to R442). -/

namespace Sys2Proof.Machine

open Sys2Proof

/-! ## The reset state -/

theorem Lcd.inv_reset : Lcd.reset.Inv :=
  inv_of_idle rfl rfl rfl rfl (fun _ => rfl) rfl ⟨List.length_replicate, List.length_replicate⟩

theorem Dma.inv_idle : (⟨false, 0#16, 0⟩ : Dma).Inv := ⟨rfl, Nat.zero_le _, nofun⟩

/-- Settles O2: the CPU is due at cycle 0, the LCD controller and the DMA engine are idle, nothing is stored. -/
theorem resetMeetsInvariant : Obligations.ResetMeetsInvariant :=
  (State.inv_iff _).mpr ⟨⟨rfl, Memory.wf_nil, Sched.notBefore_idle 0, Lcd.inv_reset, Dma.inv_idle⟩,
    Sched.notBefore_activeAt le_rfl⟩

theorem imageGet_blankFrame {x y : Nat} (hx : x < 160) (hy : y < 144) : imageGet blankFrame x y = some 0#2 := by
  simp [imageGet, blankFrame, hx, hy, ImageLine.color, ImageLine.blank]

/-- The LCD controller's registers read zero at reset. -/
theorem reset_busRead_lcdReg (r : LcdReg) : State.reset.busRead r.addr = 0#8 := by cases r <;> rfl

/-- Below the timer's registers no address is one of the CPU, the timer or the LCD controller. -/
theorem not_owns_of_lt {a : Word} (h : a.toNat < 0xFF04) {d : Component} (hd : d ∈ [Component.cpu, .timer, .lcd]) :
    d.owns a = false := by
  simp only [List.mem_cons, List.not_mem_nil, or_false] at hd
  rcases hd with rfl | rfl | rfl
  · simp only [Component.owns, Bool.or_eq_false_iff, beq_eq_false_iff_ne]
    constructor <;> bv_omega
  all_goals
    simp only [Component.owns, Bool.and_eq_false_iff, decide_eq_false_iff_not]
    omega

theorem reset_busRead_vram {a : Word} (h : 0x8000 ≤ a.toNat ∧ a.toNat ≤ 0x9FFF) : State.reset.busRead a = 0#8 :=
  State.busRead_of_first (s := State.reset) (pre := [.cpu, .timer, .lcd]) (d := .vram) (k := a.toNat) rfl
    (fun _ => not_owns_of_lt (by omega)) rfl (if_pos h)

theorem reset_busRead_oam {a : Word} (h : 0xFE00 ≤ a.toNat ∧ a.toNat ≤ 0xFE9F) : State.reset.busRead a = 0#8 := by
  refine State.busRead_of_first (s := State.reset) (pre := [.cpu, .timer, .lcd] ++ [.vram]) (d := .oam) (k := a.toNat)
    rfl (fun d hd => ?_) rfl (if_pos h)
  rcases List.mem_append.mp hd with hd | hd
  · exact not_owns_of_lt (by omega) hd
  · obtain rfl := List.mem_singleton.mp hd
    simp only [Component.owns, Component.cell?]
    rw [if_neg (by omega)]
    rfl

/-! ## The external contents of a launch -/

theorem coreKey_eq_false {k : Nat} (hvram : ¬(0x8000 ≤ k ∧ k ≤ 0x9FFF)) (hoam : ¬(0xFE00 ≤ k ∧ k ≤ 0xFE9F)) :
    coreKey k = false := by
  rw [Bool.eq_false_iff, Ne, coreKey_eq_true]
  exact not_or.mpr ⟨hvram, hoam⟩

/-- What the last cell listed does to a byte read. -/
theorem read_externalContents_concat (cells : List Host.Cell) (c : Host.Cell) (k : Nat) :
    (externalContents (cells ++ [c])).read k =
      if k = c.1 ∧ coreKey c.1 = false then c.2 else (externalContents cells).read k := by
  rw [externalContents_concat]
  cases hcore : coreKey c.1 <;> simp [Memory.read_write]

theorem read_externalContents_coreKey (cells : List Host.Cell) {k : Nat} (h : coreKey k = true) :
    (externalContents cells).read k = 0#8 := by
  induction cells using List.reverseRecOn with
  | nil => rfl
  | append_singleton cells c ih =>
    rw [read_externalContents_concat, if_neg, ih]
    rintro ⟨rfl, hc⟩
    exact absurd h (by simp [hc])

/-- Cells listed under other keys do not count. -/
theorem read_externalContents_append (cells post : List Host.Cell) {k : Nat} (h : ∀ c ∈ post, c.1 ≠ k) :
    (externalContents (cells ++ post)).read k = (externalContents cells).read k := by
  induction post using List.reverseRecOn with
  | nil => rw [List.append_nil]
  | append_singleton post c ih =>
    rw [← List.append_assoc, read_externalContents_concat, if_neg, ih fun d hd => h d (by simp [hd])]
    rintro ⟨hk, -⟩
    exact h c (by simp) hk.symm

theorem read_externalContents_unlisted (cells : List Host.Cell) {k : Nat} (h : ∀ c ∈ cells, c.1 ≠ k) :
    (externalContents cells).read k = 0#8 := read_externalContents_append [] cells h

/-- The last byte listed under a key outside VRAM and OAM counts. -/
theorem read_externalContents_last (pre post : List Host.Cell) {k : Nat} (v : Byte) (hcore : coreKey k = false)
    (h : ∀ c ∈ post, c.1 ≠ k) : (externalContents (pre ++ (k, v) :: post)).read k = v := by
  rw [List.append_cons, read_externalContents_append _ _ h, read_externalContents_concat, if_pos ⟨rfl, hcore⟩]

/-! ## The launch -/

theorem launch_of_no_owner {platform : List Component} (h : ∀ d ∈ platform, d.owns 0x0000#16 = false)
    (contents : List Host.Cell) (inputs : List (List HostAction)) :
    State.launch platform contents inputs = .refused .missingCollaborator := by
  rw [State.launch_eq, if_neg]
  rw [List.any_eq_true]
  rintro ⟨d, hd, ho⟩
  exact absurd ho (by simp [h d hd])

theorem launch_of_owner {platform : List Component} (h : ∃ d ∈ platform, d.owns 0x0000#16 = true)
    (contents : List Host.Cell) (inputs : List (List HostAction)) :
    State.launch platform contents inputs =
      .next { State.resetOn platform (externalContents contents) with hostInputs := inputs } := by
  rw [State.launch_eq, if_pos (List.any_eq_true.mpr h)]

/-- Settles O1: the reset state by its definition and the reads of each block, the launch by its two cases. -/
theorem resetStateValues : Obligations.ResetStateValues := by
  refine ⟨⟨rfl, rfl, rfl, rfl, rfl, rfl, rfl, rfl, rfl, rfl, fun k hk => ?_, rfl, rfl,
    fun x y => imageGet_blankFrame, rfl, fun x y => imageGet_blankFrame, fun a ha => ?_⟩,
    fun platform contents inputs => ⟨fun h => launch_of_no_owner h contents inputs, fun h => ?_⟩⟩
  · obtain ⟨r, hr⟩ := LcdReg.at_of_owns (a := 0xFF40#16 + BitVec.ofNat 16 k) (by
      simp only [Component.owns, Bool.and_eq_true, decide_eq_true_eq]
      constructor <;> bv_omega)
    rw [hr, reset_busRead_lcdReg]
  · exact ha.elim reset_busRead_vram reset_busRead_oam
  · refine ⟨_, launch_of_owner h contents inputs, rfl, wf_externalContents contents, fun k hk => ?_,
      fun k hk => read_externalContents_unlisted contents hk, ?_⟩
    · exact read_externalContents_coreKey contents (coreKey_eq_true.mpr hk)
    · rintro pre k v post rfl hpost hvram hoam
      exact read_externalContents_last pre post v (coreKey_eq_false hvram hoam) hpost

end Sys2Proof.Machine
end

section
/-! SUPPORT. Addresses that no component owns, and which stores share a byte on the default platform (20_memory.md R64,
R65, R70, R72, R73). -/

namespace Sys2Proof.Machine

open Sys2Proof

/-! ## Unowned addresses -/

namespace State

variable {s : State} {a : Word}

theorem busRead_of_unowned (h : ∀ d ∈ s.bus, d.owns a = false) : s.busRead a = 0xFF#8 := by
  have hnone : s.bus.findSome? (fun d => d.read s a) = none :=
    List.findSome?_eq_none_iff.mpr fun d hd => Component.read_eq_none (h d hd) s
  rw [busRead, hnone]
  rfl

theorem busWrite_of_unowned (h : ∀ d ∈ s.bus, d.owns a = false) (v : Byte) : s.busWrite a v = s :=
  busWrite_induct (P := (· = s)) s (fun t d hd ht => (componentWrite_of_not_owns (h d hd) t v).trans ht) rfl

end State

/-- Settles O46: no component answers the read, and each one ignores the write. -/
theorem unownedAddresses : Obligations.UnownedAddresses :=
  fun _ _ v h => ⟨State.busRead_of_unowned h, State.busWrite_of_unowned h v⟩

/-! ## Stores on the default platform -/

theorem registerAffects_eq_false {a : Word} (hdiv : a ≠ Config.regDiv) (htac : a ≠ Config.regTac)
    (hlcdc : a ≠ Config.regLcdc) (hlyc : a ≠ Config.regLyc) (b : Word) : registerAffects a b = false := by
  simp [registerAffects, hdiv, htac, hlcdc, hlyc]

/-- Storage is affected only where the cell of a component that keeps writes is also a cell that answers. -/
theorem storageAffects_eq_false_of_cells_ne {bus : List Component} {a b : Word}
    (h : ∀ d ∈ bus, d.keepsWrites = true → ∀ e ∈ bus, ∀ k, d.cell? a = some k → e.cell? b ≠ some k) :
    storageAffects bus a b = false := by
  rw [Bool.eq_false_iff]
  intro ht
  simp only [storageAffects, List.any_eq_true, Bool.and_eq_true] at ht
  obtain ⟨d, hd, hkeeps, e, he, hkey⟩ := ht
  split at hkey
  next k k' ha hb =>
    obtain rfl := beq_iff_eq.mp hkey
    exact h d hd hkeeps e he k ha hb
  next => cases hkey

/-- The key under which the default platform keeps the byte of an address: the echo of work RAM shares work RAM's, every
other address is its own (20_memory.md R72). -/
def consoleKey (a : Word) : Nat := if 0xE000 ≤ a.toNat ∧ a.toNat ≤ 0xFDFF then a.toNat - 0x2000 else a.toNat

theorem consoleKey_lt (a : Word) : consoleKey a < 65536 := by
  have := a.isLt
  rw [consoleKey]
  split_ifs <;> omega

/-- Two addresses that share a key are equal, or a byte of work RAM and its echo. -/
theorem eq_or_echo_of_consoleKey_eq {a b : Word} (h : consoleKey a = consoleKey b) :
    a = b ∨ (0xC000 ≤ a.toNat ∧ a.toNat ≤ 0xFDFF ∧ 0xC000 ≤ b.toNat ∧ b.toNat ≤ 0xFDFF ∧
      (a.toNat + 0x2000 = b.toNat ∨ b.toNat + 0x2000 = a.toNat)) := by
  rw [← BitVec.toNat_inj]
  simp only [consoleKey] at h
  split_ifs at h <;> omega

/-- A cell of the default platform lies at its address's key, but for the overlay's, which no store reaches. -/
theorem cell_of_console {on : Bool} {d : Component} (hd : d ∈ consolePlatform.map (Component.setEnabled on)) {a : Word}
    {k : Nat} (h : d.cell? a = some k) : k = consoleKey a ∨ d.keepsWrites = false ∧ 65536 ≤ k := by
  simp only [consolePlatform, coreComponents, List.cons_append, List.nil_append, List.map_cons, List.map_nil,
    Component.setEnabled, List.mem_cons, List.not_mem_nil, or_false] at hd
  cases d <;> simp only [Component.cell?, reduceCtorEq, Option.ite_none_right_eq_some, Option.some.injEq] at h
  case overlay =>
    obtain ⟨rfl, -⟩ := by simpa using hd
    exact .inr ⟨rfl, by omega⟩
  case vram | oam =>
    left
    rw [consoleKey, if_neg (by omega), h.2]
  case rom =>
    obtain ⟨rfl, rfl, rfl⟩ := by simpa using hd
    left
    rw [consoleKey, if_neg (by omega), ← h.2, Nat.zero_mul, Nat.zero_add]
  case ram =>
    simp only [reduceCtorEq, Component.ram.injEq, false_or] at hd
    left
    rw [consoleKey]
    rcases hd with ⟨rfl, rfl, rfl, rfl⟩ | ⟨rfl, rfl, rfl, rfl⟩ | ⟨rfl, rfl, rfl, rfl⟩ <;> split_ifs <;> omega

theorem storageAffects_console {on : Bool} {a b : Word} (h : consoleKey a ≠ consoleKey b) :
    storageAffects (consolePlatform.map (Component.setEnabled on)) a b = false := by
  refine storageAffects_eq_false_of_cells_ne fun d hd hkeeps e he k ha hb => ?_
  have hk : k = consoleKey a := (cell_of_console hd ha).resolve_right fun ⟨hnot, _⟩ => by simp [hkeeps] at hnot
  subst hk
  rcases cell_of_console he hb with heq | ⟨-, hle⟩
  · exact h heq
  · exact absurd (consoleKey_lt a) (Nat.not_lt.mpr hle)

/-- Settles O48: the store affects no register but its own, and no byte stored under another key. -/
theorem consoleStoreFrame : Obligations.ConsoleStoreFrame := by
  intro s on a b v hbus hdiv htac hlcdc hlyc hab hecho
  have hkey : consoleKey a ≠ consoleKey b := fun h => (eq_or_echo_of_consoleKey_eq h).elim hab hecho
  refine State.busRead_busWrite_other ?_ v
  rw [affects, beq_eq_false_iff_ne.mpr hab, registerAffects_eq_false hdiv htac hlcdc hlyc, hbus,
    storageAffects_console hkey]
  rfl

end Sys2Proof.Machine
end

section
/-! SUPPORT. The decoder and the encoder undo each other (30_encoding.md R102, R114, R115). -/

namespace Sys2Proof

/-! ## The decoder on a list of the length its first byte says -/

theorem instrLength_pos (op : Byte) : 1 ≤ instrLength op := by
  simp only [instrLength]; split_ifs <;> decide

theorem instrLength_le_three (op : Byte) : instrLength op ≤ 3 := by
  simp only [instrLength]; split_ifs <;> decide

/-- A list that begins with all the bytes of an instruction: the decoder reads them, with zero bytes after them up to
three, and leaves the rest. -/
theorem decode_cons_append {b : Byte} {operands : List Byte} (hlen : operands.length + 1 = instrLength b)
    (rest : List Byte) : decode (b :: operands ++ rest) =
      .ok (decodeBytes b (operands.getD 0 0#8) (operands.getD 1 0#8), rest) := by
  match operands with
  | [] | [_] | [_, _] => simp only [decode, List.cons_append, List.nil_append, ← hlen]; rfl
  | _ :: _ :: _ :: _ =>
    have := instrLength_le_three b
    simp only [List.length_cons] at hlen
    omega

/-! ## Decoding an encoding -/

theorem encode_length_eq_instrLength (i : Instr) : Laws.Encoding.Statement i := by
  cases i <;> exact ⟨_, _, rfl, rfl⟩

/-- The opcode selects the row; the bytes after it give back a word, low byte first (30_encoding.md R113), or a bit
index in the field y (R108). -/
theorem decodeBytes_of_encode {i : Instr} (h : i.wellFormed = true) {b : Byte} {operands : List Byte}
    (henc : encode i = b :: operands) : decodeBytes b (operands.getD 0 0#8) (operands.getD 1 0#8) = i := by
  cases i
  case escape => cases h
  all_goals clear h; cases henc
  case ld_BC_nn.refl nn | ld_DE_nn.refl nn | ld_HL_nn.refl nn | ld_SP_nn.refl nn | ld_mnn_SP.refl nn | ld_mnn_A.refl nn
      | ld_A_mnn.refl nn | jp_nn.refl nn | jp_NZ_nn.refl nn | jp_Z_nn.refl nn | jp_NC_nn.refl nn | jp_C_nn.refl nn
      | call_nn.refl nn | call_NZ_nn.refl nn | call_Z_nn.refl nn | call_NC_nn.refl nn | call_C_nn.refl nn =>
    conv_rhs => rw [← wordOf_hiByte_loByte nn]
    rfl
  case bit_b_B.refl b | bit_b_C.refl b | bit_b_D.refl b | bit_b_E.refl b | bit_b_H.refl b | bit_b_L.refl b
      | bit_b_mHL.refl b | bit_b_A.refl b | res_b_B.refl b | res_b_C.refl b | res_b_D.refl b | res_b_E.refl b
      | res_b_H.refl b | res_b_L.refl b | res_b_mHL.refl b | res_b_A.refl b | set_b_B.refl b | set_b_C.refl b
      | set_b_D.refl b | set_b_E.refl b | set_b_H.refl b | set_b_L.refl b | set_b_mHL.refl b | set_b_A.refl b =>
    revert b
    exact forall_fin8 rfl rfl rfl rfl rfl rfl rfl rfl
  all_goals rfl

/-- Settles O4: the decoder takes as many bytes as the first one says, which are those of the encoding. -/
theorem decodeOfEncode : Obligations.DecodeOfEncode := by
  intro i rest h
  obtain ⟨b, operands, henc, hlen⟩ := encode_length_eq_instrLength i
  rw [henc, decode_cons_append hlen, decodeBytes_of_encode h henc]

/-! ## Encoding what was decoded -/

/-- The bytes `op`, low and high byte of `nn` begin with the encoding of `i`, which has the length that `op` says. -/
def EncodedAtFront (i : Instr) (op : Byte) (nn : Word) : Prop :=
  encode i = [op, loByte nn, hiByte nn].take (instrLength op)

/-- A quadrant's 64 rows have the opcodes whose fields select them (30_encoding.md R101). -/
theorem encodedAtFront_of_rows {rows : Nat → Nat → Instr} {x : Nat} {nn : Word}
    (h : ∀ y, y < 8 → ∀ z, z < 8 → EncodedAtFront (rows y z) (BitVec.ofNat 8 (64 * x + 8 * y + z)) nn) {op : Byte}
    (hx : fieldX op = x) : EncodedAtFront (rows (fieldY op) (fieldZ op)) op nn := by
  have hrow := h _ (fieldY_lt op) _ (fieldZ_lt op)
  rwa [← hx, ← byte_of_fields] at hrow

section

variable (nn : Word) {op : Byte}

theorem decodeX0_encodedAtFront (hx : fieldX op = 0) :
    EncodedAtFront (decodeX0 (fieldY op) (fieldZ op) (loByte nn) nn) op nn :=
  encodedAtFront_of_rows (rows := fun y z => decodeX0 y z (loByte nn) nn) (hx := hx) fun y hy z hz => by
    interval_cases y <;> interval_cases z <;> rfl

theorem decodeX1_encodedAtFront (hx : fieldX op = 1) :
    EncodedAtFront (decodeX1 (fieldY op) (fieldZ op)) op nn :=
  encodedAtFront_of_rows (rows := decodeX1) (hx := hx) fun y hy z hz => by
    interval_cases y <;> interval_cases z <;> rfl

theorem decodeX2_encodedAtFront (hx : fieldX op = 2) :
    EncodedAtFront (decodeX2 (fieldY op) (fieldZ op)) op nn :=
  encodedAtFront_of_rows (rows := decodeX2) (hx := hx) fun y hy z hz => by
    interval_cases y <;> interval_cases z <;> rfl

theorem decodeX3_encodedAtFront (hx : fieldX op = 3) :
    EncodedAtFront (decodeX3 (fieldY op) (fieldZ op) (loByte nn) nn) op nn :=
  encodedAtFront_of_rows (rows := fun y z => decodeX3 y z (loByte nn) nn) (hx := hx) fun y hy z hz => by
    interval_cases y <;> interval_cases z <;> rfl

theorem encode_decodePrefixed (op2 : Byte) : encode (decodePrefixed op2) = [Config.escapeByte, op2] :=
  forall_byte (P := fun b => encode (decodePrefixed b) = [Config.escapeByte, b]) (by decide +kernel) op2

theorem decodePrefixed_wellFormed (op2 : Byte) : (decodePrefixed op2).wellFormed = true :=
  forall_byte (P := fun b => (decodePrefixed b).wellFormed = true) (by decide +kernel) op2

/-- Escape byte or quadrant by quadrant, the row that the fields select has the opcode they were read from. -/
theorem decodeBytes_encodedAtFront (b0 : Byte) : EncodedAtFront (decodeBytes b0 (loByte nn) (hiByte nn)) b0 nn := by
  by_cases he : b0 = Config.escapeByte
  · subst he
    exact encode_decodePrefixed (loByte nn)
  simp only [decodeBytes, if_neg he, wordOf_hiByte_loByte]
  split
  next hx => exact decodeX0_encodedAtFront nn hx
  next hx => exact decodeX1_encodedAtFront nn hx
  next hx => exact decodeX2_encodedAtFront nn hx
  next h0 h1 h2 => exact decodeX3_encodedAtFront nn (fieldX_eq_three h0 h1 h2)

end

/-- An encoding that begins with another byte than the escape byte is that of an instruction. -/
theorem wellFormed_of_encode {i : Instr} {b : Byte} {operands : List Byte} (henc : encode i = b :: operands)
    (hb : b ≠ Config.escapeByte) : i.wellFormed = true := by
  cases i
  case escape =>
    cases henc
    exact absurd rfl hb
  all_goals rfl

/-- Settles O5: the encoding of what was decoded begins the three bytes, so the bare escape would need the escape byte,
which decodes to a prefixed instruction. -/
theorem encodeOfDecode : Obligations.EncodeOfDecode := by
  intro b0 b1 b2
  have henc := decodeBytes_encodedAtFront (wordOf b2 b1) b0
  rw [EncodedAtFront, loByte_wordOf, hiByte_wordOf] at henc
  refine ⟨?_, henc⟩
  by_cases he : b0 = Config.escapeByte
  · rw [decodeBytes, if_pos he]
    exact decodePrefixed_wellFormed b1
  · obtain ⟨n, hn⟩ := Nat.exists_eq_add_of_le' (instrLength_pos b0)
    rw [hn, List.take_succ_cons] at henc
    exact wellFormed_of_encode henc he

/-- Settles O3: each sequence but the last two is the encoding of its instruction, with the bytes after it. -/
theorem sampleWordsDecode : Obligations.SampleWordsDecode :=
  ⟨decodeOfEncode .ld_A_B [] rfl, decodeOfEncode (.ld_A_n 0x0B#8) [] rfl, decodeOfEncode (.ld_SP_nn 0xFFFF#16) [] rfl,
    decodeOfEncode (.ld_mnn_SP 0xC100#16) [] rfl, decodeOfEncode .adc_A_E [] rfl, decodeOfEncode .inc_mHL [] rfl,
    decodeOfEncode .add_HL_HL [] rfl, decodeOfEncode (.bit_b_H 7) [] rfl, decodeOfEncode .swap_A [] rfl,
    decodeOfEncode (.jr_NZ_e 0xFD#8) [] rfl, decodeOfEncode (.call_C_nn 0x1234#16) [] rfl,
    decodeOfEncode .rst_28 [] rfl, decodeOfEncode .halt [] rfl, decodeOfEncode .stop [0x00#8] rfl,
    decodeOfEncode .illegal_DD [] rfl, rfl, rfl⟩

end Sys2Proof
end

section
/-! SUPPORT. The escape byte's meaning, and PC after an instruction that does not assign it (30_encoding.md R103, R110,
R115). -/

namespace Sys2Proof.Machine

open Sys2Proof

/-! ## The escape byte -/

/-- The fields of the second byte select the instruction as they select the operation. -/
theorem exec_decodePrefixed (op2 : Byte) (s : State) : exec (decodePrefixed op2) s = .next (s.prefixed op2) := by
  simp only [decodePrefixed, State.prefixed]
  generalize fieldX op2 = x
  generalize operand8 (fieldZ op2) = operand
  match x, operand with
  | 0, .reg r => exact exec_rotR s _ r
  | 0, .atHL => exact exec_rotM s _
  | 1, .reg r => exact exec_bitR s _ r
  | 2, .reg r => exact exec_resR s _ r
  | _ + 3, .reg r => exact exec_setR s _ r
  | 1, .atHL | 2, .atHL | _ + 3, .atHL => rfl

/-- Settles O16: both sides are the operation that the second byte's fields select. -/
theorem escapeRunsTheSelectedInstruction : Obligations.EscapeRunsTheSelectedInstruction :=
  fun op2 s => ⟨(exec_decodePrefixed op2 s).symm, s.prefixed op2, rfl⟩

/-! ## PC after the shared operations -/

namespace State

theorem Writes.pc {s t : State} (h : Writes s t) : t.pc = s.pc :=
  h.keeps (P := fun u => u.pc = s.pc) rfl (by simp) (by simp) (by simp) (by simp)

/-- Writes leave PC alone, so the end of the instruction moves it past its bytes. -/
theorem Writes.finish_pc {s u : State} (h : Writes s u) (len n : Nat) : (u.finish len n).pc = s.pcNext len :=
  congrArg (· + BitVec.ofNat 16 len) h.pc

variable (s : State)

@[simp] theorem loadReg_pc (r : Reg8) (v : Byte) (len n : Nat) : (s.loadReg r v len n).pc = s.pcNext len :=
  (Writes.refl.setReg r v).finish_pc len n
@[simp] theorem storeByte_pc (a : Word) (v : Byte) (len n : Nat) : (s.storeByte a v len n).pc = s.pcNext len :=
  (Writes.refl.busWrite a v).finish_pc len n
@[simp] theorem loadThenHL_pc (v : Word) : (s.loadThenHL v).pc = s.pcNext 1 :=
  ((Writes.refl.setReg .A _).setHL v).finish_pc 1 2
@[simp] theorem storeThenHL_pc (v : Word) : (s.storeThenHL v).pc = s.pcNext 1 :=
  ((Writes.refl.busWrite _ _).setHL v).finish_pc 1 2

@[simp] theorem loadPair_pc (p : Pair) (v : Word) : (s.loadPair p v).pc = s.pcNext 3 :=
  (Writes.refl.setPair p v).finish_pc 3 3
@[simp] theorem pushPair_pc (q : StackPair) : (s.pushPair q).pc = s.pcNext 1 :=
  (Writes.refl.push16 _).finish_pc 1 4
@[simp] theorem popPair_pc (q : StackPair) : (s.popPair q).pc = s.pcNext 1 :=
  ((Writes.refl.setSP _).setStackPair q _).finish_pc 1 3

@[simp] theorem acc_pc (op : AluOp) (v : Byte) (len n : Nat) : (s.acc op v len n).pc = s.pcNext len := by
  cases op with
  | cp => exact (Writes.refl.setF _).finish_pc len n
  | _ => exact ((Writes.refl.setReg .A _).setF _).finish_pc len n
@[simp] theorem incReg_pc (r : Reg8) : (s.incReg r).pc = s.pcNext 1 :=
  ((Writes.refl.setReg r _).setF _).finish_pc 1 1
@[simp] theorem decReg_pc (r : Reg8) : (s.decReg r).pc = s.pcNext 1 :=
  ((Writes.refl.setReg r _).setF _).finish_pc 1 1
@[simp] theorem addPair_pc (p : Pair) : (s.addPair p).pc = s.pcNext 1 :=
  ((Writes.refl.setHL _).setF _).finish_pc 1 2
@[simp] theorem stepPair_pc (p : Pair) (v : Word) : (s.stepPair p v).pc = s.pcNext 1 :=
  (Writes.refl.setPair p v).finish_pc 1 2

@[simp] theorem rotateA_pc (W : AluWord 8) : (s.rotateA W).pc = s.pcNext 1 :=
  ((Writes.refl.setReg .A _).setF _).finish_pc 1 1
@[simp] theorem rotReg_pc (op : RotOp) (r : Reg8) : (s.rotReg op r).pc = s.pcNext 2 :=
  ((Writes.refl.setReg r _).setF _).finish_pc 2 2
@[simp] theorem rotMem_pc (op : RotOp) : (s.rotMem op).pc = s.pcNext 2 :=
  ((Writes.refl.busWrite _ _).setF _).finish_pc 2 4
@[simp] theorem bitTest_pc (b : Fin 8) (v : Byte) (n : Nat) : (s.bitTest b v n).pc = s.pcNext 2 :=
  (Writes.refl.setF _).finish_pc 2 n
@[simp] theorem bitReg_pc (r : Reg8) (v : Byte) : (s.bitReg r v).pc = s.pcNext 2 :=
  (Writes.refl.setReg r v).finish_pc 2 2
@[simp] theorem bitMem_pc (v : Byte) : (s.bitMem v).pc = s.pcNext 2 :=
  (Writes.refl.busWrite _ v).finish_pc 2 4

variable {s} {cc : Cond}

theorem jumpIf_pc_of_not (h : s.cond cc = false) (a : Word) : (s.jumpIf cc a).pc = s.pcNext 3 := by
  simp [jumpIf, h, pcNext]
theorem relativeIf_pc_of_not (h : s.cond cc = false) (e : Byte) : (s.relativeIf cc e).pc = s.pcNext 2 := by
  simp [relativeIf, h, pcNext]
theorem callIf_pc_of_not (h : s.cond cc = false) (a : Word) : (s.callIf cc a).pc = s.pcNext 3 := by
  simp [callIf, h, pcNext]
theorem returnIf_pc_of_not (h : s.cond cc = false) : (s.returnIf cc).pc = s.pcNext 1 := by
  simp [returnIf, h, pcNext]

end State

open State

/-! ## PC after an instruction -/

/-- The instruction's own operation moves PC past the bytes its encoding has; a conditional transfer does when its
condition is false. -/
theorem exec_pc {i : Instr} {s : State} (hwf : i.wellFormed = true) (hfatal : fatalOpcode? i = none)
    (htransfer : transfers i = false) (hcond : ∀ cc, condition? i = some cc → s.cond cc = false) :
    ∃ t, exec i s = .next t ∧ t.pc = s.pcNext (encode i).length := by
  cases i
  case escape => cases hwf
  case stop | illegal_D3 | illegal_DB | illegal_DD | illegal_E3 | illegal_E4 | illegal_EB | illegal_EC | illegal_ED
      | illegal_F4 | illegal_FC | illegal_FD => cases hfatal
  case jp_nn | jp_HL | jr_e | call_nn | ret | reti | rst_00 | rst_08 | rst_10 | rst_18 | rst_20 | rst_28 | rst_30
      | rst_38 => cases htransfer
  all_goals refine ⟨_, rfl, ?_⟩
  case jp_NZ_nn | jp_Z_nn | jp_NC_nn | jp_C_nn => exact jumpIf_pc_of_not (hcond _ rfl) _
  case jr_NZ_e | jr_Z_e | jr_NC_e | jr_C_e => exact relativeIf_pc_of_not (hcond _ rfl) _
  case call_NZ_nn | call_Z_nn | call_NC_nn | call_C_nn => exact callIf_pc_of_not (hcond _ rfl) _
  case ret_NZ | ret_Z | ret_NC | ret_C => exact returnIf_pc_of_not (hcond _ rfl)
  case nop | di | ei | halt => rfl
  case ld_mnn_SP => exact ((Writes.refl.busWrite _ _).busWrite _ _).finish_pc 3 5
  case add_SP_e => exact ((Writes.refl.setSP _).setF _).finish_pc 2 4
  case ld_HL_SPe => exact ((Writes.refl.setHL _).setF _).finish_pc 2 3
  case ld_SP_HL => exact (Writes.refl.setSP _).finish_pc 1 2
  case daa | cpl => exact ((Writes.refl.setReg .A _).setF _).finish_pc 1 1
  case scf | ccf => exact (Writes.refl.setF _).finish_pc 1 1
  case inc_mHL | dec_mHL => exact ((Writes.refl.busWrite _ _).setF _).finish_pc 1 3
  all_goals simp [encode]

/-- Settles O15: the next PC is that of R110, a number of at most three bytes further. -/
theorem pcAdvancesByTheLength : Obligations.PcAdvancesByTheLength := by
  intro i s hwf hfatal htransfer hcond
  obtain ⟨t, ht, hpc⟩ := exec_pc hwf hfatal htransfer hcond
  have hlen : (encode i).length < 65536 := by
    obtain ⟨b, operands, henc, hb⟩ := encode_length_eq_instrLength i
    have := instrLength_le_three b
    rw [henc, List.length_cons]
    omega
  exact ⟨t, ht, by rw [hpc, pcNext_toNat s hlen]⟩

end Sys2Proof.Machine
end

section
/-! SUPPORT. The ALU's operations as numbers and as rotations of a ring of bits, and the laws between them
(40_alu.md R135 to R139, R146 to R148, R152). -/

namespace Sys2Proof.Machine

open Sys2Proof

/-! ## The parts of a result word -/

section
variable {w : Nat} (v : BitVec w) (n h c : Bool)

@[simp] theorem aluWord_val : (aluWord v n h c).val = v := rfl
@[simp] theorem aluWord_hf : (aluWord v n h c).hf = h := flagH_flagByte _ n h c
@[simp] theorem aluWord_cf : (aluWord v n h c).cf = c := flagC_flagByte _ n h c

end

namespace Alu

/-! ## Additions as numbers (R135, R137, R138) -/

section
variable (l r : Byte) (c : Bool)

theorem add_val_toNat : (add l r c).val.toNat = (l.toNat + r.toNat + c.toNat) % 256 := by simp [add]
theorem add_hf : (add l r c).hf = decide (15 < l.toNat % 16 + r.toNat % 16 + c.toNat) := by simp [add]
theorem add_cf : (add l r c).cf = decide (255 < l.toNat + r.toNat + c.toNat) := by simp [add]

/-- The carry is what the value leaves out of the sum. -/
theorem add_cf_toNat : (add l r c).cf.toNat = (l.toNat + r.toNat + c.toNat) / 256 := by
  have hl := l.isLt
  have hr := r.isLt
  have hc := c.toNat_le
  rw [add_cf]
  by_cases h : 255 < l.toNat + r.toNat + c.toNat <;> simp [h] <;> omega

end

section
variable (l r : Word)

/-- R152: the high bytes are added with the carry of the low bytes. -/
theorem wordOf_add_add : wordOf (add (hiByte l) (hiByte r) (add (loByte l) (loByte r) false).cf).val
    (add (loByte l) (loByte r) false).val = BitVec.ofNat 16 (l.toNat + r.toNat) := by
  apply BitVec.eq_of_toNat_eq
  simp only [wordOf_toNat, add_val_toNat, add_cf_toNat, loByte_toNat, hiByte_toNat, BitVec.toNat_ofNat,
    Bool.toNat_false]
  omega

theorem add16L_hf : (add16L l r).hf = (add (loByte l) (loByte r) false).hf := by
  simp [add16L, add_hf]

theorem add16L_cf : (add16L l r).cf = (add (loByte l) (loByte r) false).cf := by
  simp [add16L, add_cf]

theorem add16H_hf :
    (add16H l r).hf = (add (hiByte l) (hiByte r) (add (loByte l) (loByte r) false).cf).hf := by
  simp only [add16H, aluWord_hf, add_hf, add_cf_toNat, loByte_toNat, hiByte_toNat, Bool.toNat_false, decide_eq_decide]
  omega

theorem add16H_cf :
    (add16H l r).cf = (add (hiByte l) (hiByte r) (add (loByte l) (loByte r) false).cf).cf := by
  have hl := l.isLt
  have hr := r.isLt
  rw [add16H, aluWord_cf, add_cf, add_cf_toNat]
  simp only [loByte_toNat, hiByte_toNat, Bool.toNat_false, decide_eq_decide]
  omega

end

/-! ## Rotations of a ring of bits (R146 to R148) -/

/-- How far above a bit, in a ring of n bits, the bit stands that a rotation by one moves into its place. -/
def Dir.source (n : Nat) : Dir → Nat
  | .left => n - 1
  | .right => 1

theorem rotate_getLsbD (dir : Dir) (v : Byte) {i : Nat} (hi : i < 8) :
    (rotate dir v).val.getLsbD i = v.getLsbD ((i + dir.source 8) % 8) := by
  cases dir <;> interval_cases i <;> simp [rotate, Dir.source]

theorem swap_getLsbD (v : Byte) {i : Nat} (hi : i < 8) : (swap v).val.getLsbD i = v.getLsbD ((i + 4) % 8) := by
  interval_cases i <;> simp [swap]

/-- Sources that lie once around the ring from each other: rotations in opposite directions. -/
theorem rotate_rotate {dir dir' : Dir} (h : dir.source 8 + dir'.source 8 = 8) (v : Byte) :
    (rotate dir (rotate dir' v).val).val = v := by
  refine BitVec.eq_of_getLsbD_eq fun i hi => ?_
  rw [rotate_getLsbD _ _ hi, rotate_getLsbD _ _ (Nat.mod_lt _ (by decide))]
  congr 1
  omega

theorem swap_swap (v : Byte) : (swap (swap v).val).val = v := by
  refine BitVec.eq_of_getLsbD_eq fun i hi => ?_
  rw [swap_getLsbD _ hi, swap_getLsbD _ (Nat.mod_lt _ (by decide))]
  congr 1
  omega

/-- One rotation through the carry, of the byte and the carry together. -/
def rotateCarry (dir : Dir) (p : Byte × Bool) : Byte × Bool := ((rotateC dir p.1 p.2).val, (rotateC dir p.1 p.2).cf)

/-- The byte with the carry above it: the nine bits that a rotation through the carry moves. -/
def carryRing (p : Byte × Bool) : BitVec 9 := BitVec.cons p.2 p.1

theorem carryRing_injective {p q : Byte × Bool} (h : carryRing p = carryRing q) : p = q :=
  Prod.ext (by simpa [carryRing] using congrArg (BitVec.setWidth 8) h)
    (by simpa [carryRing] using congrArg BitVec.msb h)

theorem bitByte_getElem (c : Bool) {i : Nat} (hi : i < 8) : (bitByte c)[i] = (c && decide (i = 0)) := by
  cases c <;> simp [bitByte, BitVec.getElem_one]

theorem carryRing_rotateCarry_getLsbD (dir : Dir) (p : Byte × Bool) {i : Nat} (hi : i < 9) :
    (carryRing (rotateCarry dir p)).getLsbD i = (carryRing p).getLsbD ((i + dir.source 9) % 9) := by
  obtain ⟨v, c⟩ := p
  cases dir <;> interval_cases i <;>
    simp [carryRing, rotateCarry, rotateC, Dir.source, bitByte_getElem, BitVec.getElem_cons]

theorem carryRing_times_getLsbD (dir : Dir) (p : Byte × Bool) (n : Nat) {i : Nat} (hi : i < 9) :
    (carryRing (times (rotateCarry dir) n p)).getLsbD i = (carryRing p).getLsbD ((i + n * dir.source 9) % 9) := by
  induction n generalizing i with
  | zero => simp [times, Nat.mod_eq_of_lt hi]
  | succ n ih =>
    rw [times, carryRing_rotateCarry_getLsbD dir _ hi, ih (Nat.mod_lt _ (by decide))]
    congr 1
    rw [Nat.succ_mul]
    omega

theorem times_nine_rotateCarry (dir : Dir) (p : Byte × Bool) : times (rotateCarry dir) 9 p = p := by
  refine carryRing_injective (BitVec.eq_of_getLsbD_eq fun i hi => ?_)
  rw [carryRing_times_getLsbD dir p 9 hi, Nat.add_mul_mod_self_left, Nat.mod_eq_of_lt hi]

/-! ## Decimal adjustment after an addition (R139) -/

section
variable (l r : Byte) (c : Bool)

/-- The low nibble is corrected iff the sum of the low nibbles is no decimal digit. -/
theorem bcdFixLow_add : bcdFixLow (add l r c).val false (add l r c).hf =
    decide (9 < l.toNat % 16 + r.toNat % 16 + c.toNat) := by
  rw [Bool.eq_iff_iff]
  simp only [bcdFixLow, add_hf, add_val_toNat, Bool.not_false, Bool.true_and, Bool.or_eq_true, decide_eq_true_eq]
  omega

/-- The high nibble is corrected iff the whole sum is above 0x99. -/
theorem bcdFixHigh_add : bcdFixHigh (add l r c).val false (add l r c).cf =
    decide (0x99 < l.toNat + r.toNat + c.toNat) := by
  rw [Bool.eq_iff_iff]
  simp only [bcdFixHigh, add_cf, add_val_toNat, Bool.not_false, Bool.true_and, Bool.or_eq_true, decide_eq_true_eq]
  omega

/-- An addition and its decimal adjustment. -/
def addDecimal : AluWord 8 := bcdAdjust (add l r c).val false (add l r c).hf (add l r c).cf

theorem addDecimal_cf : (addDecimal l r c).cf = decide (0x99 < l.toNat + r.toNat + c.toNat) := by
  rw [addDecimal, bcdAdjust, aluWord_cf, bcdFixHigh_add]

theorem addDecimal_val_toNat : (addDecimal l r c).val.toNat =
    (l.toNat + r.toNat + c.toNat + (if 0x99 < l.toNat + r.toNat + c.toNat then 0x60 else 0) +
      (if 9 < l.toNat % 16 + r.toNat % 16 + c.toNat then 6 else 0)) % 256 := by
  simp only [addDecimal, bcdAdjust, aluWord_val, bcdFixHigh_add, bcdFixLow_add, decide_eq_true_eq,
    Bool.false_eq_true, if_false]
  split <;> split <;> simp [add_val_toNat, Nat.add_assoc]

end

/-- The two decimal digits of a number below 100 in the nibbles of a byte. -/
def bcdByte (a : Nat) : Byte := BitVec.ofNat 8 (a / 10 * 16 + a % 10)

section
variable {a b : Nat} (ha : a < 100) (hb : b < 100) (c : Bool)
include ha

theorem bcdByte_toNat : (bcdByte a).toNat = a / 10 * 16 + a % 10 := by
  rw [bcdByte, BitVec.toNat_ofNat]
  omega

theorem bcdByte_toNat_mod : (bcdByte a).toNat % 16 = a % 10 := by
  rw [bcdByte_toNat ha]
  omega

include hb

/-- The sum of the bytes is above 0x99 iff the sum of the numbers is above 99. -/
theorem bcdByte_add_above_iff :
    0x99 < (bcdByte a).toNat + (bcdByte b).toNat + c.toNat ↔ 100 ≤ a + b + c.toNat := by
  have hc := c.toNat_le
  rw [bcdByte_toNat ha, bcdByte_toNat hb]
  omega

theorem addDecimal_bcdByte_cf : (addDecimal (bcdByte a) (bcdByte b) c).cf = decide (100 ≤ a + b + c.toNat) := by
  rw [addDecimal_cf, decide_eq_decide, bcdByte_add_above_iff ha hb]

/-- Each correction by 6 in a nibble turns a carry out of a decimal digit into one out of the nibble. -/
theorem addDecimal_bcdByte_val_toNat : (addDecimal (bcdByte a) (bcdByte b) c).val.toNat =
    (a + b + c.toNat) % 100 / 10 * 16 + (a + b + c.toNat) % 10 := by
  have hc := c.toNat_le
  have hlow : (a + b + c.toNat) / 10 = a / 10 + b / 10 + (if 9 < a % 10 + b % 10 + c.toNat then 1 else 0) := by
    split <;> omega
  have hhigh : (a + b + c.toNat) % 100 = a + b + c.toNat - (if 100 ≤ a + b + c.toNat then 100 else 0) := by
    split <;> omega
  rw [addDecimal_val_toNat, bcdByte_toNat_mod ha, bcdByte_toNat_mod hb, hhigh]
  simp only [bcdByte_add_above_iff ha hb]
  rw [bcdByte_toNat ha, bcdByte_toNat hb]
  split at hlow <;> split <;> omega

end

/-- Settles O18: the additions as numbers, the rotations as moves of bits around a ring, and the decimal addition by
the two corrections it makes. -/
theorem aluLaws : Obligations.AluLaws := by
  refine ⟨?_, ?_, fun dir v c => times_nine_rotateCarry dir (v, c), ?_⟩
  · rintro l r _ _ rfl rfl
    exact ⟨(wordOf_add_add l r).symm, (wordOf_add_add l r).symm, add16L_hf l r, add16L_cf l r, add16H_hf l r,
      add16H_cf l r⟩
  · exact fun v => ⟨rotate_rotate rfl v, rotate_rotate rfl v, swap_swap v⟩
  · rintro a b c ha hb _ _ _ _ rfl rfl rfl rfl
    exact ⟨addDecimal_bcdByte_val_toNat ha hb c, addDecimal_bcdByte_cf ha hb c⟩

end Alu

end Sys2Proof.Machine
end

section
/-! SUPPORT. The 8-bit loads and stores (41_load8.md): the encodings with operands, what one load and one store of a
byte do, and the forms that move HL (R160 to R178). -/

namespace Sys2Proof.Machine

open Sys2Proof

/-! ## Encodings with operands -/

/-- One operand byte follows the opcode. -/
theorem encodedAs_of_byte {i : Instr} {op : Nat} {n : Byte} (h : encode i = [BitVec.ofNat 8 op, n]) :
    EncodedAs i [op, n.toNat] := by
  simp [EncodedAs, h]

/-- An operand word follows the opcode, its low byte first (00_scope.md R13). -/
theorem encodedAs_of_word {i : Instr} {op : Nat} {nn : Word}
    (h : encode i = [BitVec.ofNat 8 op, loByte nn, hiByte nn]) :
    EncodedAs i [op, nn.toNat % 256, nn.toNat / 256] := by
  simp only [EncodedAs, h, loByte_eq_ofNat, hiByte_eq_ofNat, List.map_cons, List.map_nil]

theorem encodedAs_ldRR (r q : Reg8) : EncodedAs (.ldRR r q) [64 + 8 * code8 r + code8 q] := by
  cases r <;> cases q <;> rfl

theorem encodedAs_ldRN (r : Reg8) (n : Byte) : EncodedAs (.ldRN r n) [6 + 8 * code8 r, n.toNat] :=
  encodedAs_of_byte (by cases r <;> rfl)

theorem encodedAs_ldRM (r : Reg8) : EncodedAs (.ldRM r) [70 + 8 * code8 r] := by cases r <;> rfl

theorem encodedAs_ldMR (r : Reg8) : EncodedAs (.ldMR r) [0x70 + code8 r] := by cases r <;> rfl

/-! ## One byte loaded, one byte stored -/

namespace State

variable {s : State}

theorem sameOutside_loadReg (r : Reg8) (v : Byte) (len n : Nat) : SameOutside s (s.loadReg r v len n) :=
  (s.sameOutside_setReg r v).trans (sameOutside_finish _ len n)

theorem sameOutside_storeByte (a : Word) (v : Byte) (len n : Nat) :
    SameOutside (s.busWrite a v) (s.storeByte a v len n) :=
  sameOutside_finish _ len n

/-- Changes of the CPU's registers alone after one store: the frame of the store, and what a plain byte reads. -/
theorem storesOnly_of_busWrite {t : State} {a : Word} {v : Byte} (h : SameOutside (s.busWrite a v) t) :
    StoresOnly s t [a] ∧ (plainByte s.bus a = true → t.busRead a = v) :=
  ⟨StoresOnly.of_sameOutside (storesOnly_busWrite s a v) h, fun ha => by rw [h.bytes, busRead_busWrite_same ha]⟩

theorem loadsByte_of_exec {i : Instr} {r : Reg8} {v : Byte} {len n : Nat} (hlen : len < 65536)
    (h : exec i s = .next (s.loadReg r v len n)) : LoadsByte i s r v len n := by
  refine ⟨_, h, ?_, fun q hq => ?_, s.setReg_f r v, s.setReg_sp r v,
    advances_finish hlen n (s.setReg_pc r v) (s.setReg_cycle r v), sameOutside_loadReg r v len n⟩
  · simp [loadReg]
  · simp [loadReg, List.mem_singleton.not.mp hq]

theorem storesByte_of_exec {i : Instr} {a : Word} {v : Byte} {len n : Nat} (hlen : len < 65536)
    (h : exec i s = .next (s.storeByte a v len n)) : StoresByte i s a v len n :=
  ⟨_, h, busWrite_regs s a v, busWrite_sp s a v,
    advances_finish hlen n (busWrite_pc s a v) (busWrite_cycle s a v), sameOutside_storeByte a v len n,
    storesOnly_of_busWrite (sameOutside_storeByte a v len n)⟩

end State

open State

/-- Settles O19: each form is one load of a register from its source byte. -/
theorem loadByteForms : Obligations.LoadByteForms := by
  intro s r q n nn
  refine ⟨⟨encodedAs_ldRR r q, loadsByte_of_exec (by decide) (exec_ldRR s r q)⟩,
    ⟨encodedAs_ldRN r n, loadsByte_of_exec (by decide) (exec_ldRN s r n)⟩,
    ⟨encodedAs_ldRM r, loadsByte_of_exec (by decide) (exec_ldRM s r)⟩,
    ⟨rfl, loadsByte_of_exec (by decide) rfl⟩, ⟨rfl, loadsByte_of_exec (by decide) rfl⟩,
    ⟨encodedAs_of_word rfl, loadsByte_of_exec (by decide) rfl⟩, ⟨encodedAs_of_byte rfl, ?_⟩, ⟨rfl, ?_⟩⟩
  all_goals
    rw [← highPage_eq_ofNat]
    exact loadsByte_of_exec (by decide) rfl

/-- Settles O20: each form is one store of its byte at its address. -/
theorem storeByteForms : Obligations.StoreByteForms := by
  intro s r n nn
  refine ⟨⟨encodedAs_ldMR r, storesByte_of_exec (by decide) (exec_ldMR s r)⟩,
    ⟨encodedAs_of_byte rfl, storesByte_of_exec (by decide) rfl⟩, ⟨rfl, storesByte_of_exec (by decide) rfl⟩,
    ⟨rfl, storesByte_of_exec (by decide) rfl⟩, ⟨encodedAs_of_word rfl, storesByte_of_exec (by decide) rfl⟩,
    ⟨encodedAs_of_byte rfl, ?_⟩, ⟨rfl, ?_⟩⟩
  all_goals
    rw [← highPage_eq_ofNat]
    exact storesByte_of_exec (by decide) rfl

/-! ## The forms that move HL -/

namespace State

variable (s : State) (w : Word)

@[simp] theorem setHL_hl : (s.setHL w).hl = w := s.pair_setPair .HL w

@[simp] theorem setHL_f : (s.setHL w).regs.f = s.regs.f := rfl

theorem setHL_reg {q : Reg8} (hH : q ≠ .H) (hL : q ≠ .L) : (s.setHL w).reg q = s.reg q := by
  simp [setHL, hH, hL]

/-- HL after a step down, as the number the statement gives. -/
theorem toNat_sub_one : (w - 1).toNat = (w.toNat + 65535) % 65536 := by bv_omega

theorem loadThenHL_a : (s.loadThenHL w).regs.a = s.busRead s.hl := rfl

theorem loadThenHL_hl : (s.loadThenHL w).hl = w := setHL_hl _ w

theorem storeThenHL_hl : (s.storeThenHL w).hl = w := setHL_hl _ w

theorem storeThenHL_f : (s.storeThenHL w).regs.f = s.regs.f := by simp [storeThenHL]

theorem storeThenHL_sp : (s.storeThenHL w).sp = s.sp := by simp [storeThenHL]

theorem sameRegsBut_loadThenHL : SameRegsBut [.A, .H, .L] s (s.loadThenHL w) := by
  intro q hq
  simp only [List.mem_cons, List.not_mem_nil, or_false, not_or] at hq
  obtain ⟨hA, hH, hL⟩ := hq
  rw [loadThenHL, finish_reg, setHL_reg _ w hH hL, setReg_reg, if_neg hA]

theorem sameRegsBut_storeThenHL : SameRegsBut [.H, .L] s (s.storeThenHL w) := by
  intro q hq
  simp only [List.mem_cons, List.not_mem_nil, or_false, not_or] at hq
  obtain ⟨hH, hL⟩ := hq
  have hstore : (s.busWrite s.hl (s.reg .A)).reg q = s.reg q := by cases q <;> simp [reg]
  rw [storeThenHL, finish_reg, setHL_reg _ w hH hL, hstore]

theorem sameOutside_setHL : SameOutside s (s.setHL w) := s.sameOutside_setPair .HL w

theorem sameOutside_loadThenHL : SameOutside s (s.loadThenHL w) :=
  ((s.sameOutside_setReg .A _).trans (sameOutside_setHL _ w)).trans (sameOutside_finish _ 1 2)

theorem sameOutside_storeThenHL : SameOutside (s.busWrite s.hl s.regs.a) (s.storeThenHL w) :=
  (sameOutside_setHL _ w).trans (sameOutside_finish _ 1 2)

theorem advances_loadThenHL : Advances s (s.loadThenHL w) 1 2 :=
  advances_finish (by decide) 2 (by simp) (by simp)

theorem advances_storeThenHL : Advances s (s.storeThenHL w) 1 2 :=
  advances_finish (by decide) 2 (by simp) (by simp)

end State

/-- Settles O21: a load or a store at HL, then HL one up or one down. -/
theorem loadAndStoreMovingHL : Obligations.LoadAndStoreMovingHL := by
  intro s
  refine ⟨fun i d op h => ?_, fun i d op h => ?_⟩
  · have hform : EncodedAs i [op] ∧ ∃ w : Word, exec i s = .next (s.loadThenHL w) ∧
        w.toNat = (s.hl.toNat + d) % 65536 := by
      rcases h with h | h <;> cases h
      · exact ⟨rfl, _, rfl, BitVec.toNat_add _ _⟩
      · exact ⟨rfl, _, rfl, toNat_sub_one _⟩
    obtain ⟨henc, w, hexec, hw⟩ := hform
    exact ⟨henc, _, hexec, s.loadThenHL_a w, by rw [loadThenHL_hl, hw], s.sameRegsBut_loadThenHL w, rfl, rfl,
      s.advances_loadThenHL w, s.sameOutside_loadThenHL w⟩
  · have hform : EncodedAs i [op] ∧ ∃ w : Word, exec i s = .next (s.storeThenHL w) ∧
        w.toNat = (s.hl.toNat + d) % 65536 := by
      rcases h with h | h <;> cases h
      · exact ⟨rfl, _, rfl, BitVec.toNat_add _ _⟩
      · exact ⟨rfl, _, rfl, toNat_sub_one _⟩
    obtain ⟨henc, w, hexec, hw⟩ := hform
    exact ⟨henc, _, hexec, by rw [storeThenHL_hl, hw], s.sameRegsBut_storeThenHL w, s.storeThenHL_f w,
      s.storeThenHL_sp w, s.advances_storeThenHL w, s.sameOutside_storeThenHL w,
      storesOnly_of_busWrite (s.sameOutside_storeThenHL w)⟩

end Sys2Proof.Machine
end

section
/-! SUPPORT. The 16-bit loads, the signed offset of SP and the stack: one lemma per operation and part of its result
(42_load16_stack.md R190 to R195, R201 to R203; 44_arith16.md R253). -/

namespace Sys2Proof.Machine

open Sys2Proof

/-! ## Encodings of the families -/

theorem encodedAs_ldPairNN (p : Pair) (nn : Word) :
    EncodedAs (.ldPairNN p nn) [1 + 16 * code16 p, nn.toNat % 256, nn.toNat / 256] :=
  encodedAs_of_word (by cases p <;> rfl)

theorem encodedAs_pushPair (q : StackPair) : EncodedAs (.pushPair q) [0xC5 + 16 * codeStk q] := by cases q <;> rfl

theorem encodedAs_popPair (q : StackPair) : EncodedAs (.popPair q) [0xC1 + 16 * codeStk q] := by cases q <;> rfl

namespace State

/-! ## Loads of a pair (R190, R192) -/

@[simp] theorem finish_pair (s : State) (len n : Nat) (p : Pair) : (s.finish len n).pair p = s.pair p := by
  cases p <;> rfl

theorem loadPair_pair (s : State) (p : Pair) (nn : Word) : (s.loadPair p nn).pair p = nn := by simp [loadPair]

theorem samePairsBut_loadPair (s : State) (p : Pair) (nn : Word) : SamePairsBut p s (s.loadPair p nn) := by
  obtain ⟨hpairs, ha, hf⟩ := s.samePairsBut_setPair p nn
  exact ⟨fun q hq => (finish_pair _ 3 3 q).trans (hpairs q hq), ha, hf⟩

theorem advances_loadPair (s : State) (p : Pair) (nn : Word) : Advances s (s.loadPair p nn) 3 3 :=
  advances_finish (by decide) 3 (s.setPair_pc p nn) (s.setPair_cycle p nn)

theorem sameOutside_loadPair (s : State) (p : Pair) (nn : Word) : SameOutside s (s.loadPair p nn) :=
  (s.sameOutside_setPair p nn).trans (sameOutside_finish _ 3 3)

end State

open State

/-- Settles O22: a write of the one pair, or of SP, and the end of the instruction. -/
theorem loadPairForms : Obligations.LoadPairForms := by
  intro s p nn
  refine ⟨⟨encodedAs_ldPairNN p nn, _, exec_ldPairNN s p nn, s.loadPair_pair p nn, s.samePairsBut_loadPair p nn,
    s.advances_loadPair p nn, s.sameOutside_loadPair p nn⟩, rfl, (s.setSP s.hl).finish 1 2, rfl, rfl, rfl,
    advances_finish (by decide) 2 rfl rfl, ?_⟩
  exact (s.sameOutside_setSP s.hl).trans (sameOutside_finish _ 1 2)

/-! ## The store of SP (R191) -/

/-- Settles O23: two stores, of the low byte of SP and then of its high byte. -/
theorem storeStackPointer : Obligations.StoreStackPointer := by
  intro s nn
  have houtside : SameOutside ((s.busWrite nn (loByte s.sp)).busWrite (nn + 1) (hiByte s.sp))
      ((s.busWrite16 nn s.sp).finish 3 5) := sameOutside_finish _ 3 5
  obtain ⟨hstores, hhigh, hlow⟩ := two_stores houtside
  refine ⟨encodedAs_of_word rfl, (s.busWrite16 nn s.sp).finish 3 5, rfl, by simp [SameRegs, busWrite16],
    by simp [busWrite16], advances_finish (by decide) 5 (by simp [busWrite16]) (by simp), ?_, hstores,
    fun h => ?_, fun h hne => ?_⟩
  · rwa [← loByte_eq_ofNat, ← hiByte_eq_ofNat]
  · rw [hhigh h, hiByte_toNat]
  · rw [hlow h hne, loByte_toNat]

/-! ## SP and a signed offset (R193, R253) -/

/-- The low byte of the offset is its byte, whatever its sign. -/
theorem sext16_toNat_mod (e : Byte) : (sext16 e).toNat % 256 = e.toNat := by
  have he := e.isLt
  rw [sext16_toNat]
  split <;> omega

namespace State

variable (s : State) (e : Byte)

theorem spPlus_val_toNat : (s.spPlus e).val.toNat = signedSum s.sp e := by
  rw [← add_sext16_toNat, BitVec.toNat_add]
  exact BitVec.toNat_ofNat _ 16

theorem spPlus_hf : (s.spPlus e).hf = decide (s.sp.toNat % 16 + e.toNat % 16 > 15) := by
  have hlow : (sext16 e).toNat % 16 = e.toNat % 16 := by
    rw [← sext16_toNat_mod e]
    omega
  rw [spPlus, Alu.add16L, aluWord_hf, hlow]

theorem spPlus_cf : (s.spPlus e).cf = decide (s.sp.toNat % 256 + e.toNat > 255) := by
  rw [spPlus, Alu.add16L, aluWord_cf, sext16_toNat_mod]

/-- What both forms do once the sum is written: H and C of the sum, Z = N = 0, and the end of the instruction. -/
def finishSpPlus (s u : State) (e : Byte) (n : Nat) : State :=
  (u.setFlags false false (s.spPlus e).hf (s.spPlus e).cf).finish 2 n

theorem exec_ld_HL_SPe : exec (.ld_HL_SPe e) s = .next (s.finishSpPlus (s.setHL (s.spPlus e).val) e 3) := rfl

theorem exec_add_SP_e : exec (.add_SP_e e) s = .next (s.finishSpPlus (s.setSP (s.spPlus e).val) e 4) := rfl

variable {s} (u : State) (n : Nat)

theorem flagsAre_finishSpPlus : FlagsAre (s.finishSpPlus u e n) false false
    (decide (s.sp.toNat % 16 + e.toNat % 16 > 15)) (decide (s.sp.toNat % 256 + e.toNat > 255)) := by
  rw [FlagsAre, finishSpPlus, finish_regs, setFlags_f, flagByte_toNat, spPlus_hf, spPlus_cf]

theorem finishSpPlus_reg (q : Reg8) : (s.finishSpPlus u e n).reg q = u.reg q := by simp [finishSpPlus]

variable {u}

theorem advances_finishSpPlus (hpc : u.pc = s.pc) (hcycle : u.cycle = s.cycle) :
    Advances s (s.finishSpPlus u e n) 2 n := advances_finish (by decide) n hpc hcycle

theorem sameOutside_finishSpPlus (h : SameOutside s u) : SameOutside s (s.finishSpPlus u e n) :=
  (h.trans (sameOutside_setF u _)).trans (sameOutside_finish _ 2 n)

end State

/-- Settles O24: the sum is written to HL or to SP, and both forms end alike. -/
theorem stackPointerOffset : Obligations.StackPointerOffset := by
  intro s e
  have hsum : (s.spPlus e).val.toNat = signedSum s.sp e := s.spPlus_val_toNat e
  refine ⟨⟨encodedAs_of_byte rfl, _, s.exec_ld_HL_SPe e, ?_⟩, encodedAs_of_byte rfl, _, s.exec_add_SP_e e, ?_⟩
  · refine ⟨(congrArg BitVec.toNat (s.setHL_hl _)).trans hsum, flagsAre_finishSpPlus e _ 3, fun q hq => ?_, rfl,
      advances_finishSpPlus e 3 rfl rfl, sameOutside_finishSpPlus e 3 (s.sameOutside_setHL _)⟩
    simp only [List.mem_cons, List.not_mem_nil, or_false, not_or] at hq
    obtain ⟨hH, hL⟩ := hq
    rw [finishSpPlus_reg, s.setHL_reg _ hH hL]
  · refine ⟨hsum, flagsAre_finishSpPlus e _ 4, fun q _ => ?_, advances_finishSpPlus e 4 rfl rfl,
      sameOutside_finishSpPlus e 4 (s.sameOutside_setSP _)⟩
    rw [finishSpPlus_reg, setSP_reg]

/-! ## Push and pop (R194, R195, R201 to R203) -/

/-- Settles O25: a push of the pair and the end of the instruction. -/
theorem pushForms : Obligations.PushForms := by
  intro s q
  exact ⟨encodedAs_pushPair q, _, exec_pushPair s q, s.push16_regs _,
    advances_finish (by decide) 4 (s.push16_pc _) (s.push16_cycle _),
    pushed_push16 s (sameOutside_finish _ 1 4) (s.push16_sp _)⟩

namespace State

@[simp] theorem finish_stackPair (s : State) (len n : Nat) (q : StackPair) :
    (s.finish len n).stackPair q = s.stackPair q := by cases q <;> rfl

@[simp] theorem drop16_stackPair (s : State) (q : StackPair) : s.drop16.stackPair q = s.stackPair q := by
  cases q <;> rfl

theorem top16_toNat (s : State) : s.top16.toNat = 256 * (s.busRead (s.sp + 1)).toNat + (s.busRead s.sp).toNat :=
  wordOf_toNat _ _

section
variable (s : State) (q : StackPair)

theorem popPair_stackPair_toNat :
    ((s.popPair q).stackPair q).toNat = if q = .AF then s.top16.toNat / 16 * 16 else s.top16.toNat := by
  rw [popPair, finish_stackPair, stackPair_setStackPair]

theorem popPair_stackPair_other {p : StackPair} (h : p ≠ q) : (s.popPair q).stackPair p = s.stackPair p := by
  rw [popPair, finish_stackPair, stackPair_setStackPair_other _ h, drop16_stackPair]

theorem popPair_sp : (s.popPair q).sp = s.sp + 2 := by simp [popPair]

theorem advances_popPair : Advances s (s.popPair q) 1 3 := advances_finish (by decide) 3 (by simp) (by simp)

theorem sameOutside_popPair : SameOutside s (s.popPair q) :=
  ((s.sameOutside_setSP _).trans (sameOutside_setStackPair _ q _)).trans (sameOutside_finish _ 1 3)

end

/-- A pop takes the two bytes that a push wrote, as long as both still read as written. -/
theorem top16_push16 {s : State} (v : Word) (hhigh : plainByte s.bus (s.sp - 1) = true)
    (hlow : plainByte s.bus (s.sp - 2) = true) (hne : affects s.bus (s.sp - 2) (s.sp - 1) = false) :
    (s.push16 v).top16 = v := by
  have hpushed : Pushed s (s.push16 v) v := pushed_push16 s (.refl _) (s.push16_sp v)
  have hsp : s.sp - 2 + 1 = s.sp - 1 := by bv_omega
  rw [top16, busRead16, push16_sp, hsp, hpushed.high hhigh hne, hpushed.low hlow, wordOf_hiByte_loByte]

theorem drop16_push16_sp (s : State) (v : Word) : (s.push16 v).drop16.sp = s.sp := by
  rw [drop16_sp, push16_sp, BitVec.sub_add_cancel]

end State

/-- Settles O26: the pop's value written to the pair, its low nibble masked for AF, and SP past the two bytes. -/
theorem popForms : Obligations.PopForms := by
  intro s q
  refine ⟨encodedAs_popPair q, _, exec_popPair s q, ?_, fun p => s.popPair_stackPair_other q, ?_,
    s.advances_popPair q, s.sameOutside_popPair q⟩
  · rw [popPair_stackPair_toNat, top16_toNat]
  · rw [popPair_sp]
    exact BitVec.toNat_add _ _

/-- Settles O27: the bytes the push wrote are those the pop reads, and SP goes down and up by 2. -/
theorem popUndoesPush : Obligations.PopUndoesPush :=
  fun s v hhigh hlow hne => ⟨top16_push16 v hhigh hlow hne, s.drop16_push16_sp v⟩

end Sys2Proof.Machine
end

section
/-! SUPPORT. 8-bit arithmetic and logic (43_arith8.md): the subtraction and the decimal adjustment as numbers, the
three shapes in which these instructions end, and one lemma per accumulator operation (R210 to R241). -/

namespace Sys2Proof.Machine

open Sys2Proof

/-! ## The ALU's results as numbers -/

/-- The Zero law (40_alu.md R133) on numbers. -/
theorem byte_beq_zero (v : Byte) : (v == 0#8) = decide (v.toNat = 0) := by
  rw [Bool.eq_iff_iff, beq_iff_eq, decide_eq_true_eq, ← BitVec.toNat_inj]
  rfl

@[simp] theorem aluWord_zf (v : Byte) (n h c : Bool) : (aluWord v n h c).zf = decide (v.toNat = 0) :=
  (flagZ_flagByte _ n h c).trans (byte_beq_zero v)

namespace Alu

/-! ### Subtraction (R136) -/

section
variable (l r : Byte) (b : Bool)

theorem sub_val_toNat : (sub l r b).val.toNat = (l.toNat + 512 - r.toNat - b.toNat) % 256 := by
  have hr := r.isLt
  have hb := b.toNat_le
  rw [sub, aluWord_val, BitVec.toNat_ofInt]
  omega

theorem sub_hf : (sub l r b).hf = decide (l.toNat % 16 < r.toNat % 16 + b.toNat) := aluWord_hf _ _ _ _

/-- Without a borrow the difference is 0 only of equal bytes. -/
theorem sub_false_zf : (sub l r false).zf = decide (l.toNat = r.toNat) := by
  have hval := sub_val_toNat l r false
  have hl := l.isLt
  have hr := r.isLt
  rw [sub, aluWord_val, Bool.toNat_false] at hval
  rw [sub, aluWord_zf, decide_eq_decide, Bool.toNat_false, hval]
  omega

end

/-! ### Steps by one (R234, R236) -/

section
variable (v : Byte)

theorem add_one_val_toNat : (add v 1#8 false).val.toNat = (v.toNat + 1) % 256 := add_val_toNat v 1#8 false

theorem add_one_zf : (add v 1#8 false).zf = decide (v.toNat = 255) := by
  have hv := v.isLt
  have hval := add_one_val_toNat v
  rw [add, aluWord_val] at hval
  rw [add, aluWord_zf, decide_eq_decide, hval]
  omega

theorem add_one_hf : (add v 1#8 false).hf = decide (v.toNat % 16 = 15) := by
  rw [add_hf, decide_eq_decide, BitVec.toNat_ofNat, Bool.toNat_false]
  omega

theorem sub_one_val_toNat : (sub v 1#8 false).val.toNat = (v.toNat + 255) % 256 := by
  rw [sub_val_toNat, BitVec.toNat_ofNat, Bool.toNat_false]
  omega

theorem sub_one_zf : (sub v 1#8 false).zf = decide (v.toNat = 1) := sub_false_zf v 1#8

theorem sub_one_hf : (sub v 1#8 false).hf = decide (v.toNat % 16 = 0) := by
  rw [sub_hf, decide_eq_decide, BitVec.toNat_ofNat, Bool.toNat_false]
  omega

end

/-! ### Decimal adjustment (R139) -/

/-- The correction of the low digit. -/
def bcdLow (v : Byte) (n h : Bool) : Nat := if h = true ∨ (n = false ∧ v.toNat % 16 > 9) then 6 else 0

/-- The correction of the high digit. -/
def bcdHigh (v : Byte) (n c : Bool) : Nat := if c = true ∨ (n = false ∧ v.toNat > 0x99) then 0x60 else 0

section
variable (v : Byte) (n h c : Bool)

theorem bcdFixLow_iff : bcdFixLow v n h = true ↔ h = true ∨ (n = false ∧ v.toNat % 16 > 9) := by
  simp [bcdFixLow]

theorem bcdFixHigh_iff : bcdFixHigh v n c = true ↔ c = true ∨ (n = false ∧ v.toNat > 0x99) := by
  simp [bcdFixHigh]

theorem bcdAdjust_cf : (bcdAdjust v n h c).cf = decide (bcdHigh v n c = 0x60) := by
  rw [bcdAdjust, aluWord_cf, Bool.eq_iff_iff, bcdFixHigh_iff, decide_eq_true_eq, bcdHigh]
  split
  case isTrue hfix => exact iff_of_true hfix rfl
  case isFalse hfix => exact iff_of_false hfix (by decide)

theorem bcdAdjust_val_toNat : (bcdAdjust v n h c).val.toNat =
    if n = true then (v.toNat + 256 - (bcdLow v n h + bcdHigh v n c)) % 256
    else (v.toNat + bcdLow v n h + bcdHigh v n c) % 256 := by
  have hfix : ((if bcdFixHigh v n c then 0x60#8 else 0x00#8) + (if bcdFixLow v n h then 0x06#8 else 0x00#8)).toNat =
      bcdLow v n h + bcdHigh v n c := by
    simp only [bcdFixLow_iff, bcdFixHigh_iff, bcdLow, bcdHigh]
    split <;> split <;> rfl
  have hle : bcdLow v n h + bcdHigh v n c ≤ 256 := hfix ▸ (BitVec.isLt _).le
  rw [bcdAdjust, aluWord_val]
  split
  · rw [BitVec.toNat_sub, hfix]
    omega
  · rw [BitVec.toNat_add, hfix]
    omega

theorem bcdAdjust_zf : (bcdAdjust v n h c).zf = decide ((bcdAdjust v n h c).val.toNat = 0) := aluWord_zf _ _ _ _

end

end Alu

/-! ## Encodings -/

/-- The opcode of an accumulator operation on B, the first of its row (30_encoding.md R114). -/
def aluRow : AluOp → Nat
  | .add => 0x80
  | .adc => 0x88
  | .sub => 0x90
  | .sbc => 0x98
  | .and => 0xA0
  | .xor => 0xA8
  | .or => 0xB0
  | .cp => 0xB8

theorem encodedAs_aluR (op : AluOp) (r : Reg8) : EncodedAs (.aluR op r) [aluRow op + code8 r] := by
  cases op <;> cases r <;> rfl

theorem encodedAs_aluM (op : AluOp) : EncodedAs (.aluM op) [aluRow op + 6] := by cases op <;> rfl

theorem encodedAs_aluN (op : AluOp) (n : Byte) : EncodedAs (.aluN op n) [aluRow op + 0x46, n.toNat] :=
  encodedAs_of_byte (by cases op <;> rfl)

theorem encodedAs_incR (r : Reg8) : EncodedAs (.incR r) [4 + 8 * code8 r] := by cases r <;> rfl

theorem encodedAs_decR (r : Reg8) : EncodedAs (.decR r) [5 + 8 * code8 r] := by cases r <;> rfl

/-! ## Instructions that end in a write of the flags -/

namespace State

section
variable {s : State} {i : Instr} {z n h c : Bool} {len cycles : Nat} (hlen : len < 65536)

theorem flagsAre_setFlags_finish (u : State) : FlagsAre ((u.setFlags z n h c).finish len cycles) z n h c := by
  rw [FlagsAre, finish_regs, setFlags_f, flagByte_toNat]

theorem sameOutside_setFlags_finish (u : State) : SameOutside u ((u.setFlags z n h c).finish len cycles) :=
  (sameOutside_setF u _).trans (sameOutside_finish _ len cycles)

include hlen

theorem computesByte_of_exec {r : Reg8} {v : Byte}
    (hexec : exec i s = .next (((s.setReg r v).setFlags z n h c).finish len cycles)) :
    ComputesByte i s r v.toNat z n h c len cycles := by
  refine ⟨_, hexec, by simp, flagsAre_setFlags_finish _, fun q hq => ?_, s.setReg_sp r v,
    advances_finish hlen cycles (s.setReg_pc r v) (s.setReg_cycle r v),
    (s.sameOutside_setReg r v).trans (sameOutside_setFlags_finish _)⟩
  simp [List.mem_singleton.not.mp hq]

theorem computesFlags_of_exec (hexec : exec i s = .next ((s.setFlags z n h c).finish len cycles)) :
    ComputesFlags i s z n h c len cycles :=
  ⟨_, hexec, flagsAre_setFlags_finish s, fun q _ => s.setFlags_reg z n h c q, rfl,
    advances_finish hlen cycles rfl rfl, sameOutside_setFlags_finish s⟩

theorem rewritesByte_of_exec {v : Byte}
    (hexec : exec i s = .next (((s.busWrite s.hl v).setFlags z n h c).finish len cycles)) :
    RewritesByte i s v.toNat (flagsNat z n h c) len cycles := by
  have houtside : SameOutside (s.busWrite s.hl v) (((s.busWrite s.hl v).setFlags z n h c).finish len cycles) :=
    sameOutside_setFlags_finish _
  obtain ⟨hstores, hread⟩ := storesOnly_of_busWrite houtside
  refine ⟨_, hexec, flagsAre_setFlags_finish _, fun q _ => ?_, s.busWrite_sp s.hl v,
    advances_finish hlen cycles (s.busWrite_pc s.hl v) (s.busWrite_cycle s.hl v), ?_, hstores,
    fun hplain => congrArg BitVec.toNat (hread hplain)⟩
  · rw [finish_reg, setFlags_reg]
    cases q <;> simp [reg]
  · rwa [BitVec.ofNat_toNat, BitVec.setWidth_eq]

end

/-! ## Accumulator operations (R210 to R233) -/

/-- Every operation but CP writes A and F from its word. -/
theorem acc_of_ne_cp (s : State) {op : AluOp} (hop : op ≠ .cp) (v : Byte) (len cycles : Nat) :
    s.acc op v len cycles =
      ((s.setReg .A (s.accWord op v).val).setF (s.accWord op v).flg).finish len cycles := by
  cases op
  case cp => exact absurd rfl hop
  all_goals rfl

section
variable {s : State} {i : Instr} {op : AluOp} {v w : Byte} {b n h c : Bool} {len cycles : Nat} (hlen : len < 65536)
  (hexec : exec i s = .next (s.acc op v len cycles))
include hlen hexec

theorem computesByte_acc (hop : op ≠ .cp) (hword : s.accWord op v = aluWord w n h c) :
    ComputesByte i s .A w.toNat (decide (w.toNat = 0)) n h c len cycles := by
  rw [← byte_beq_zero]
  rw [acc_of_ne_cp s hop, hword] at hexec
  exact computesByte_of_exec hlen hexec

theorem computesByte_add (hop : op ≠ .cp) (hword : s.accWord op v = Alu.add s.regs.a v b) :
    ComputesByte i s .A ((s.regs.a.toNat + v.toNat + b.toNat) % 256)
      (decide ((s.regs.a.toNat + v.toNat + b.toNat) % 256 = 0)) false
      (decide (s.regs.a.toNat % 16 + v.toNat % 16 + b.toNat > 15))
      (decide (s.regs.a.toNat + v.toNat + b.toNat > 255)) len cycles := by
  rw [← Alu.add_val_toNat]
  exact computesByte_acc hlen hexec hop hword

theorem computesByte_sub (hop : op ≠ .cp) (hword : s.accWord op v = Alu.sub s.regs.a v b) :
    ComputesByte i s .A ((s.regs.a.toNat + 512 - v.toNat - b.toNat) % 256)
      (decide ((s.regs.a.toNat + 512 - v.toNat - b.toNat) % 256 = 0)) true
      (decide (s.regs.a.toNat % 16 < v.toNat % 16 + b.toNat))
      (decide (s.regs.a.toNat < v.toNat + b.toNat)) len cycles := by
  rw [← Alu.sub_val_toNat]
  exact computesByte_acc hlen hexec hop hword

end

/-- CP writes the flags of the subtraction alone (R231). -/
theorem acc_cp (s : State) (v : Byte) (len cycles : Nat) : s.acc .cp v len cycles =
    (s.setFlags (decide (s.regs.a.toNat = v.toNat)) true (decide (s.regs.a.toNat % 16 < v.toNat % 16))
      (decide (s.regs.a.toNat < v.toNat))).finish len cycles := by
  rw [← Alu.sub_false_zf, Alu.sub, aluWord_zf, ← byte_beq_zero]
  rfl

end State

open State

/-- Settles O28: each form is the addition of its operand and its carry. -/
theorem addForms : Obligations.AddForms := by
  intro s r n
  refine ⟨fun i v c len cycles h => ?_, encodedAs_aluR .add r, encodedAs_aluN .add n, encodedAs_aluM .add,
    encodedAs_aluR .adc r, encodedAs_aluN .adc n, encodedAs_aluM .adc⟩
  rcases h with h | h | h | h | h | h <;> cases h
  · exact computesByte_add (b := false) (by decide) (exec_aluR s .add r) (by decide) rfl
  · exact computesByte_add (b := false) (by decide) (exec_aluN s .add n) (by decide) rfl
  · exact computesByte_add (b := false) (by decide) (exec_aluM s .add) (by decide) rfl
  · exact computesByte_add (by decide) (exec_aluR s .adc r) (by decide) rfl
  · exact computesByte_add (by decide) (exec_aluN s .adc n) (by decide) rfl
  · exact computesByte_add (by decide) (exec_aluM s .adc) (by decide) rfl

/-- Settles O29: each form is the subtraction of its operand and its borrow. -/
theorem subtractForms : Obligations.SubtractForms := by
  intro s r n
  refine ⟨fun i v c len cycles h => ?_, encodedAs_aluR .sub r, encodedAs_aluN .sub n, encodedAs_aluM .sub,
    encodedAs_aluR .sbc r, encodedAs_aluN .sbc n, encodedAs_aluM .sbc⟩
  rcases h with h | h | h | h | h | h <;> cases h
  · exact computesByte_sub (b := false) (by decide) (exec_aluR s .sub r) (by decide) rfl
  · exact computesByte_sub (b := false) (by decide) (exec_aluN s .sub n) (by decide) rfl
  · exact computesByte_sub (b := false) (by decide) (exec_aluM s .sub) (by decide) rfl
  · exact computesByte_sub (by decide) (exec_aluR s .sbc r) (by decide) rfl
  · exact computesByte_sub (by decide) (exec_aluN s .sbc n) (by decide) rfl
  · exact computesByte_sub (by decide) (exec_aluM s .sbc) (by decide) rfl

/-- Settles O30: the flags of the subtraction without a borrow, and no register written. -/
theorem compareForms : Obligations.CompareForms := by
  intro s r n
  refine ⟨fun i v len cycles h => ?_, encodedAs_aluR .cp r, encodedAs_aluN .cp n, encodedAs_aluM .cp⟩
  rcases h with h | h | h <;> cases h
  · exact computesFlags_of_exec (by decide) ((exec_aluR s .cp r).trans (by rw [acc_cp]))
  · exact computesFlags_of_exec (by decide) ((exec_aluN s .cp n).trans (by rw [acc_cp]))
  · exact computesFlags_of_exec (by decide) ((exec_aluM s .cp).trans (by rw [acc_cp]))

/-! ## Logic, bit by bit (R222 to R230) -/

/-- The operation works on each bit by `f`, and sets H to h. -/
def Bitwise (op : AluOp) (f : Bool → Bool → Bool) (h : Bool) : Prop :=
  op ≠ .cp ∧ ∀ (s : State) (v : Byte), ∃ w : Byte, s.accWord op v = aluWord w false h false ∧
    ∀ j, j < 8 → w.getLsbD j = f (s.regs.a.getLsbD j) (v.getLsbD j)

theorem bitwise_and : Bitwise .and (· && ·) true :=
  ⟨by decide, fun _ _ => ⟨_, rfl, fun _ _ => BitVec.getLsbD_and⟩⟩

theorem bitwise_xor : Bitwise .xor (· ^^ ·) false :=
  ⟨by decide, fun _ _ => ⟨_, rfl, fun _ _ => BitVec.getLsbD_xor⟩⟩

theorem bitwise_or : Bitwise .or (· || ·) false :=
  ⟨by decide, fun _ _ => ⟨_, rfl, fun _ _ => BitVec.getLsbD_or⟩⟩

theorem Bitwise.exec_acc {op : AluOp} {f : Bool → Bool → Bool} {h : Bool} (hop : Bitwise op f h) {s : State} {i : Instr}
    {v : Byte} {len cycles : Nat} (hlen : len < 65536) (hexec : exec i s = .next (s.acc op v len cycles)) :
    ∃ t, exec i s = .next t ∧ (∀ j, j < 8 → t.regs.a.getLsbD j = f (s.regs.a.getLsbD j) (v.getLsbD j)) ∧
      FlagsAre t (decide (t.regs.a.toNat = 0)) false h false ∧ SameRegsBut [.A] s t ∧ t.sp = s.sp ∧
      Advances s t len cycles ∧ SameOutside s t := by
  obtain ⟨hcp, hbits⟩ := hop
  obtain ⟨w, hword, hw⟩ := hbits s v
  obtain ⟨t, ht, hval, hflags, hframe⟩ := computesByte_acc hlen hexec hcp hword
  obtain rfl : t.regs.a = w := BitVec.eq_of_toNat_eq hval
  exact ⟨t, ht, hw, hflags, hframe⟩

/-- Settles O31: each of the three operations works bit by bit, whatever its operand. -/
theorem logicForms : Obligations.LogicForms := by
  intro s op f h base hrow r n
  have hop : Bitwise op f h ∧ base = aluRow op := by
    rcases hrow with hrow | hrow | hrow <;> cases hrow
    · exact ⟨bitwise_and, rfl⟩
    · exact ⟨bitwise_xor, rfl⟩
    · exact ⟨bitwise_or, rfl⟩
  obtain ⟨hop, rfl⟩ := hop
  refine ⟨fun i v len cycles hi => ?_, encodedAs_aluR op r, encodedAs_aluM op, encodedAs_aluN op n⟩
  rcases hi with hi | hi | hi <;> cases hi
  · exact hop.exec_acc (by decide) (exec_aluR s op r)
  · exact hop.exec_acc (by decide) (exec_aluN s op n)
  · exact hop.exec_acc (by decide) (exec_aluM s op)

/-! ## INC and DEC (R234 to R237) -/

namespace State

section
variable (s u : State) (v : Byte)

theorem setIncFlags_add_one (hf : u.regs.f = s.regs.f) : u.setIncFlags (Alu.add v 1#8 false) =
    u.setFlags (decide (v.toNat = 255)) false (decide (v.toNat % 16 = 15)) s.fC := by
  rw [setIncFlags, Alu.add_one_zf, Alu.add_one_hf, fC, hf, fC]

theorem setDecFlags_sub_one (hf : u.regs.f = s.regs.f) : u.setDecFlags (Alu.sub v 1#8 false) =
    u.setFlags (decide (v.toNat = 1)) true (decide (v.toNat % 16 = 0)) s.fC := by
  rw [setDecFlags, Alu.sub_one_zf, Alu.sub_one_hf, fC, hf, fC]

end

section
variable (s : State)

theorem exec_inc_mHL : exec .inc_mHL s =
    .next (((s.busWrite s.hl (Alu.add (s.busRead s.hl) 1#8 false).val).setIncFlags
      (Alu.add (s.busRead s.hl) 1#8 false)).finish 1 3) := rfl

theorem exec_dec_mHL : exec .dec_mHL s =
    .next (((s.busWrite s.hl (Alu.sub (s.busRead s.hl) 1#8 false).val).setDecFlags
      (Alu.sub (s.busRead s.hl) 1#8 false)).finish 1 3) := rfl

theorem computesByte_incR (r : Reg8) : ComputesByte (.incR r) s r (((s.reg r).toNat + 1) % 256)
    (decide ((s.reg r).toNat = 255)) false (decide ((s.reg r).toNat % 16 = 15)) s.fC 1 1 := by
  rw [← Alu.add_one_val_toNat]
  apply computesByte_of_exec (by decide)
  rw [exec_incR, incReg, setIncFlags_add_one s _ _ (s.setReg_f r _)]

theorem computesByte_decR (r : Reg8) : ComputesByte (.decR r) s r (((s.reg r).toNat + 255) % 256)
    (decide ((s.reg r).toNat = 1)) true (decide ((s.reg r).toNat % 16 = 0)) s.fC 1 1 := by
  rw [← Alu.sub_one_val_toNat]
  apply computesByte_of_exec (by decide)
  rw [exec_decR, decReg, setDecFlags_sub_one s _ _ (s.setReg_f r _)]

theorem rewritesByte_inc_mHL : RewritesByte .inc_mHL s (((s.busRead s.hl).toNat + 1) % 256)
    (flagsNat (decide ((s.busRead s.hl).toNat = 255)) false (decide ((s.busRead s.hl).toNat % 16 = 15)) s.fC) 1 3 := by
  rw [← Alu.add_one_val_toNat]
  apply rewritesByte_of_exec (by decide)
  rw [exec_inc_mHL, setIncFlags_add_one s _ _ (by rw [busWrite_regs])]

theorem rewritesByte_dec_mHL : RewritesByte .dec_mHL s (((s.busRead s.hl).toNat + 255) % 256)
    (flagsNat (decide ((s.busRead s.hl).toNat = 1)) true (decide ((s.busRead s.hl).toNat % 16 = 0)) s.fC) 1 3 := by
  rw [← Alu.sub_one_val_toNat]
  apply rewritesByte_of_exec (by decide)
  rw [exec_dec_mHL, setDecFlags_sub_one s _ _ (by rw [busWrite_regs])]

end

end State

/-- Settles O32: an addition or a subtraction of 1, its value to the operand, and C kept. -/
theorem incrementAndDecrement : Obligations.IncrementAndDecrement := fun s r =>
  ⟨⟨encodedAs_incR r, s.computesByte_incR r⟩, ⟨encodedAs_decR r, s.computesByte_decR r⟩,
    ⟨rfl, s.rewritesByte_inc_mHL⟩, rfl, s.rewritesByte_dec_mHL⟩

/-! ## DAA, CPL, SCF and CCF (R238 to R241) -/

/-- Settles O33: the two corrections are the ALU's, and so are their sum or difference with A and the carry. -/
theorem decimalAdjust : Obligations.DecimalAdjust := by
  rintro s _ lo hi w rfl hlo hhi hw
  obtain rfl : lo = Alu.bcdLow s.regs.a s.fN s.fH := hlo
  obtain rfl : hi = Alu.bcdHigh s.regs.a s.fN s.fC := hhi
  rw [← Alu.bcdAdjust_val_toNat] at hw
  subst hw
  rw [← Alu.bcdAdjust_zf, ← Alu.bcdAdjust_cf _ _ s.fH]
  exact ⟨rfl, computesByte_of_exec (by decide) rfl⟩

/-- The complement of a byte as a number. -/
theorem xor_ones_toNat (v : Byte) : (v ^^^ 0xFF#8).toNat = 255 - v.toNat :=
  (congrArg BitVec.toNat BitVec.xor_allOnes).trans BitVec.toNat_not

/-- Settles O34: each of the three writes the flags the rule gives, CPL after the complement of A. -/
theorem flagInstructions : Obligations.FlagInstructions := by
  intro s
  refine ⟨⟨rfl, ?_⟩, ⟨rfl, computesFlags_of_exec (by decide) rfl⟩, rfl, computesFlags_of_exec (by decide) rfl⟩
  rw [← xor_ones_toNat]
  exact computesByte_of_exec (by decide) rfl

end Sys2Proof.Machine
end

section
/-! SUPPORT. 16-bit arithmetic (44_arith16.md): the addition to HL as numbers, and the step of a pair by one
(R250 to R252). -/

namespace Sys2Proof.Machine

open Sys2Proof

/-! ## Encodings of the families -/

theorem encodedAs_addHL (p : Pair) : EncodedAs (.addHL p) [9 + 16 * code16 p] := by cases p <;> rfl

theorem encodedAs_incPair (p : Pair) : EncodedAs (.incPair p) [3 + 16 * code16 p] := by cases p <;> rfl

theorem encodedAs_decPair (p : Pair) : EncodedAs (.decPair p) [11 + 16 * code16 p] := by cases p <;> rfl

/-! ## The high-byte-sourced addition as a number (R138) -/

theorem Alu.add16H_val_toNat (l r : Word) : (Alu.add16H l r).val.toNat = (l.toNat + r.toNat) % 65536 :=
  BitVec.toNat_ofNat _ 16

namespace State

variable (s : State) (p : Pair)

/-! ## ADD HL,rr (R250) -/

theorem addPair_hl_toNat : (s.addPair p).hl.toNat = (s.hl.toNat + (s.pair p).toNat) % 65536 :=
  (congrArg BitVec.toNat (s.setHL_hl _)).trans (Alu.add16H_val_toNat _ _)

theorem flagsAre_addPair : FlagsAre (s.addPair p) s.fZ false
    (decide (s.hl.toNat % 4096 + (s.pair p).toNat % 4096 > 4095))
    (decide (s.hl.toNat + (s.pair p).toNat > 65535)) := by
  rw [FlagsAre, addPair, finish_regs, setFlags_f, flagByte_toNat, Alu.add16H, aluWord_hf, aluWord_cf]

theorem sameRegsBut_addPair : SameRegsBut [.H, .L] s (s.addPair p) := by
  intro q hq
  simp only [List.mem_cons, List.not_mem_nil, or_false, not_or] at hq
  obtain ⟨hH, hL⟩ := hq
  rw [addPair, finish_reg, setFlags_reg, setHL_reg _ _ hH hL]

theorem advances_addPair : Advances s (s.addPair p) 1 2 := advances_finish (by decide) 2 rfl rfl

theorem sameOutside_addPair : SameOutside s (s.addPair p) :=
  (s.sameOutside_setHL _).trans (sameOutside_setFlags_finish _)

/-! ## INC rr and DEC rr (R251, R252) -/

variable {s p} {v : Word}

theorem samePairsBut_finish {t : State} (h : SamePairsBut p s t) (len n : Nat) : SamePairsBut p s (t.finish len n) := by
  obtain ⟨hpairs, ha, hf⟩ := h
  exact ⟨fun q hq => (finish_pair t len n q).trans (hpairs q hq), ha, hf⟩

theorem stepsPair_of_exec {i : Instr} (hexec : exec i s = .next (s.stepPair p v)) :
    ∃ t, exec i s = .next t ∧ (t.pair p).toNat = v.toNat ∧ SamePairsBut p s t ∧ Advances s t 1 2 ∧
      SameOutside s t :=
  ⟨_, hexec, by rw [stepPair, finish_pair, pair_setPair], samePairsBut_finish (s.samePairsBut_setPair p v) 1 2,
    advances_finish (by decide) 2 (s.setPair_pc p v) (s.setPair_cycle p v),
    (s.sameOutside_setPair p v).trans (sameOutside_finish _ 1 2)⟩

end State

open State

/-- Settles O35: HL takes the value and the flags of one addition, and a step writes its pair alone. -/
theorem pairArithmetic : Obligations.PairArithmetic := by
  intro s p
  have hinc : (s.pair p + 1).toNat = ((s.pair p).toNat + 1) % 65536 := BitVec.toNat_add _ _
  have hdec : (s.pair p - 1).toNat = ((s.pair p).toNat + 65535) % 65536 := toNat_sub_one _
  rw [← hinc, ← hdec]
  exact ⟨⟨encodedAs_addHL p, _, exec_addHL s p, s.addPair_hl_toNat p, s.flagsAre_addPair p,
      s.sameRegsBut_addPair p, rfl, s.advances_addPair p, s.sameOutside_addPair p⟩,
    ⟨encodedAs_incPair p, stepsPair_of_exec (exec_incPair s p)⟩,
    encodedAs_decPair p, stepsPair_of_exec (exec_decPair s p)⟩

end Sys2Proof.Machine
end

section
/-! SUPPORT. Rotates, shifts, swap and the bit instructions (45_rotate_shift_bit.md): the ALU's results as numbers, and
the shapes in which the register and the (HL) forms end (R260 to R285). -/

namespace Sys2Proof.Machine

open Sys2Proof

/-! ## A byte put together from disjoint parts -/

/-- Where two bytes share no set bit, putting them together is adding them. -/
theorem or_toNat_of_and_eq_zero {v w : Byte} (h : v &&& w = 0#8) : (v ||| w).toNat = v.toNat + w.toNat := by
  rw [← BitVec.add_eq_or_of_and_eq_zero v w h, BitVec.toNat_add_of_and_eq_zero h]

/-- The bits that a shift to the left by k leaves free are those of a number below 2 ^ k. -/
theorem shiftLeft_or_toNat {v w : Byte} {k : Nat} (hw : w.toNat < 2 ^ k) :
    (v <<< k ||| w).toNat = v.toNat * 2 ^ k % 256 + w.toNat := by
  have hdisjoint : v <<< k &&& w = 0#8 := by
    refine BitVec.eq_of_getLsbD_eq fun i _ => ?_
    rw [BitVec.getLsbD_and, BitVec.getLsbD_shiftLeft, BitVec.getLsbD_zero]
    by_cases hi : i < k
    · simp [hi]
    · have hclear : w.getLsbD i = false :=
        Nat.testBit_lt_two_pow (hw.trans_le (Nat.pow_le_pow_right (by decide) (Nat.le_of_not_lt hi)))
      rw [hclear, Bool.and_false]
  rw [or_toNat_of_and_eq_zero hdisjoint, BitVec.toNat_shiftLeft, Nat.shiftLeft_eq]

theorem Alu.bitByte_toNat (c : Bool) : (Alu.bitByte c).toNat = c.toNat := by cases c <;> rfl

theorem ushiftRight_toNat (v : Byte) (k : Nat) : (v >>> k).toNat = v.toNat / 2 ^ k := by
  rw [BitVec.toNat_ushiftRight, Nat.shiftRight_eq_div_pow]

theorem getLsbD_toNat (v : Byte) (i : Nat) : (v.getLsbD i).toNat = v.toNat / 2 ^ i % 2 := Nat.toNat_testBit _ i

theorem getLsbD_seven_toNat (v : Byte) : (v.getLsbD 7).toNat = v.toNat / 128 := by
  have hv := v.isLt
  rw [getLsbD_toNat]
  omega

theorem getLsbD_zero_toNat (v : Byte) : (v.getLsbD 0).toNat = v.toNat % 2 := by
  rw [getLsbD_toNat, Nat.pow_zero, Nat.div_one]

/-! ## Rotates, shifts and swap as numbers (R143 to R148) -/

namespace Alu

variable (v : Byte) (c : Bool)

theorem rotate_left_val_toNat : (rotate .left v).val.toNat = v.toNat * 2 % 256 + v.toNat / 128 := by
  have hv := v.isLt
  have hw : (v >>> 7).toNat = v.toNat / 128 := ushiftRight_toNat v 7
  rw [rotate, aluWord_val, shiftLeft_or_toNat (by omega), hw, Nat.pow_one]

theorem rotate_right_val_toNat : (rotate .right v).val.toNat = v.toNat / 2 + 128 * (v.toNat % 2) := by
  have hv := v.isLt
  have hw := ushiftRight_toNat v 1
  have hlow : (v &&& 1#8).toNat = v.toNat % 2 := Nat.and_two_pow_sub_one_eq_mod _ 1
  rw [rotate, aluWord_val, BitVec.or_comm, shiftLeft_or_toNat (by omega), hw, hlow]
  omega

theorem rotateC_left_val_toNat : (rotateC .left v c).val.toNat = v.toNat * 2 % 256 + c.toNat := by
  have hc := bitByte_toNat c
  have hle := c.toNat_le
  rw [rotateC, aluWord_val, shiftLeft_or_toNat (by omega), hc, Nat.pow_one]

theorem rotateC_right_val_toNat : (rotateC .right v c).val.toNat = v.toNat / 2 + 128 * c.toNat := by
  have hv := v.isLt
  have hw := ushiftRight_toNat v 1
  have hle := c.toNat_le
  rw [rotateC, aluWord_val, BitVec.or_comm, shiftLeft_or_toNat (by omega), hw, bitByte_toNat]
  omega

theorem shiftLeft_val_toNat : (shiftLeft v).val.toNat = v.toNat * 2 % 256 := by
  rw [shiftLeft, aluWord_val, BitVec.toNat_shiftLeft, Nat.shiftLeft_eq]

/-- R144: bit 7 stays where it is. -/
theorem shiftRightA_val_toNat : (shiftRightA v).val.toNat = v.toNat / 2 + 128 * (v.toNat / 128) := by
  have hv := v.isLt
  have hw := ushiftRight_toNat v 1
  have hsign := ushiftRight_toNat v 7
  have htop : v &&& 0x80#8 = v >>> 7 <<< 7 := by
    refine BitVec.eq_of_getLsbD_eq fun i hi => ?_
    interval_cases i <;> simp
  rw [shiftRightA, aluWord_val, htop, BitVec.or_comm, shiftLeft_or_toNat (by omega), hw, hsign]
  omega

theorem swap_val_toNat : (swap v).val.toNat = v.toNat % 16 * 16 + v.toNat / 16 := by
  have hv := v.isLt
  have hw := ushiftRight_toNat v 4
  have hlow : (v &&& 0x0F#8).toNat = v.toNat % 16 := Nat.and_two_pow_sub_one_eq_mod _ 4
  rw [swap, aluWord_val, shiftLeft_or_toNat (by omega), hw, hlow]
  omega

theorem shiftRightL_val_toNat : (shiftRightL v).val.toNat = v.toNat / 2 := ushiftRight_toNat v 1

end Alu

/-! ## The word of a rotate, shift or swap (R264 to R279) -/

namespace State

section
variable (s : State) (op : RotOp) (v : Byte)

/-- D16: every word has N and H clear. -/
theorem rotWord_eq_aluWord : s.rotWord op v = aluWord (s.rotWord op v).val false false (s.rotWord op v).cf := by
  cases op <;> exact (congrArg (aluWord _ false false) (aluWord_cf _ false false _)).symm

theorem rotWord_cf_toNat : (s.rotWord op v).cf.toNat = (rotated op v.toNat s.fC.toNat).2 := by
  cases op
  case rlc | rl | sla => exact (congrArg Bool.toNat (aluWord_cf _ _ _ _)).trans (getLsbD_seven_toNat v)
  case rrc | rr | sra | srl => exact (congrArg Bool.toNat (aluWord_cf _ _ _ _)).trans (getLsbD_zero_toNat v)
  case swap => exact congrArg Bool.toNat (aluWord_cf _ _ _ _)

theorem rotWord_val_toNat : (s.rotWord op v).val.toNat = (rotated op v.toNat s.fC.toNat).1 := by
  cases op
  case rlc => exact Alu.rotate_left_val_toNat v
  case rrc => exact Alu.rotate_right_val_toNat v
  case rl => exact Alu.rotateC_left_val_toNat v s.fC
  case rr => exact Alu.rotateC_right_val_toNat v s.fC
  case sla => exact Alu.shiftLeft_val_toNat v
  case sra => exact Alu.shiftRightA_val_toNat v
  case swap => exact Alu.swap_val_toNat v
  case srl => exact Alu.shiftRightL_val_toNat v

theorem rotWord_cf : (s.rotWord op v).cf = decide ((rotated op v.toNat s.fC.toNat).2 = 1) := by
  simp [← rotWord_cf_toNat]

/-- The flags a prefixed rotate, shift or swap writes. -/
theorem setF_rotWord (u : State) : u.setF (s.rotWord op v).flg =
    u.setFlags (decide ((rotated op v.toNat s.fC.toNat).1 = 0)) false false
      (decide ((rotated op v.toNat s.fC.toNat).2 = 1)) := by
  rw [rotWord_eq_aluWord, setFlags, aluWord, byte_beq_zero, rotWord_val_toNat, rotWord_cf]

end

end State

/-! ## Encodings of the prefixed forms (R264 to R285) -/

theorem encodedAs_rotR (op : RotOp) (r : Reg8) : EncodedAs (.rotR op r) [0xCB, 8 * rotCode op + code8 r] := by
  cases op <;> cases r <;> rfl

theorem encodedAs_rotM (op : RotOp) : EncodedAs (.rotM op) [0xCB, 8 * rotCode op + 6] := by cases op <;> rfl

/-- The second byte of BIT, RES and SET: the quadrant, the bit and the operand's code. -/
theorem encodedAs_of_bitOpcode {i : Instr} {base code : Nat} {b : Fin 8}
    (h : encode i = [0xCB#8, bitOpcode (BitVec.ofNat 8 (base + code)) b]) :
    EncodedAs i [0xCB, base + 8 * b.val + code] := by
  rw [EncodedAs, h, bitOpcode, ← BitVec.ofNat_add, Nat.add_right_comm]
  rfl

section
variable (b : Fin 8) (r : Reg8)

theorem encodedAs_bitR : EncodedAs (.bitR b r) [0xCB, 64 + 8 * b.val + code8 r] :=
  encodedAs_of_bitOpcode (by cases r <;> rfl)

theorem encodedAs_resR : EncodedAs (.resR b r) [0xCB, 128 + 8 * b.val + code8 r] :=
  encodedAs_of_bitOpcode (by cases r <;> rfl)

theorem encodedAs_setR : EncodedAs (.setR b r) [0xCB, 192 + 8 * b.val + code8 r] :=
  encodedAs_of_bitOpcode (by cases r <;> rfl)

theorem encodedAs_bit_b_mHL : EncodedAs (.bit_b_mHL b) [0xCB, 70 + 8 * b.val] :=
  encodedAs_of_bitOpcode (code := 0) rfl

theorem encodedAs_res_b_mHL : EncodedAs (.res_b_mHL b) [0xCB, 134 + 8 * b.val] :=
  encodedAs_of_bitOpcode (code := 0) rfl

theorem encodedAs_set_b_mHL : EncodedAs (.set_b_mHL b) [0xCB, 198 + 8 * b.val] :=
  encodedAs_of_bitOpcode (code := 0) rfl

end

open State

/-! ## Rotates, shifts and swap (R260 to R279) -/

theorem computesByte_of_rotateA {s : State} {i : Instr} {op : RotOp}
    (hexec : exec i s = .next (s.rotateA (s.rotWord op s.regs.a))) :
    ComputesByte i s .A (rotated op s.regs.a.toNat s.fC.toNat).1 false false false
      (decide ((rotated op s.regs.a.toNat s.fC.toNat).2 = 1)) 1 1 := by
  rw [← rotWord_val_toNat, ← rotWord_cf]
  exact computesByte_of_exec (by decide) hexec

/-- Settles O36: each is the prefixed rotate's word on A, with Z cleared. -/
theorem rotateAccumulator : Obligations.RotateAccumulator := by
  intro s i op byte h
  rcases h with h | h | h | h <;> cases h
  all_goals exact ⟨rfl, computesByte_of_rotateA rfl⟩

/-- Settles O37: the register takes the word's value, and F its flags. -/
theorem rotateRegister : Obligations.RotateRegister := by
  intro s op r
  have hexec := exec_rotR s op r
  rw [rotReg, setF_rotWord] at hexec
  have hform := computesByte_of_exec (by decide) hexec
  rw [rotWord_val_toNat] at hform
  exact ⟨encodedAs_rotR op r, hform⟩

/-- Settles O38: the byte at HL takes the word's value, and F its flags. -/
theorem rotateMemory : Obligations.RotateMemory := by
  intro s op v c h
  have hexec := exec_rotM s op
  rw [rotMem, setF_rotWord, ← h] at hexec
  have hform := rewritesByte_of_exec (by decide) hexec
  rw [rotWord_val_toNat, ← h] at hform
  exact ⟨encodedAs_rotM op, hform⟩

/-! ## One bit of a byte (R280 to R285) -/

section
variable (v : Byte) (b : Fin 8)

theorem bitMask_toNat : (1#8 <<< b.val).toNat = 2 ^ b.val := by
  rw [← BitVec.twoPow_eq, BitVec.toNat_twoPow_of_lt b.isLt]

theorem and_bitMask_toNat : (v &&& 1#8 <<< b.val).toNat = v.toNat / 2 ^ b.val % 2 * 2 ^ b.val := by
  rw [BitVec.toNat_and, bitMask_toNat, Nat.and_two_pow, Nat.toNat_testBit]

theorem testBit_zf : (Alu.testBit v b).zf = decide (v.toNat / 2 ^ b.val % 2 = 0) := by
  rw [Alu.testBit, aluWord_zf, and_bitMask_toNat, decide_eq_decide, Nat.mul_eq_zero,
    or_iff_left (Nat.two_pow_pos _).ne']

theorem clearBit_and_bitMask : clearBit v b &&& 1#8 <<< b.val = 0#8 := by
  rw [clearBit, BitVec.and_assoc, BitVec.and_comm _ (1#8 <<< b.val), BitVec.and_not_self]
  exact BitVec.and_zero

/-- A byte is its cleared byte and the bit that was cleared. -/
theorem clearBit_toNat_add : (clearBit v b).toNat + v.toNat / 2 ^ b.val % 2 * 2 ^ b.val = v.toNat := by
  have hdisjoint : clearBit v b &&& (v &&& 1#8 <<< b.val) = 0#8 := by
    rw [BitVec.and_comm v, ← BitVec.and_assoc, clearBit_and_bitMask, BitVec.zero_and]
  have hparts : clearBit v b ||| (v &&& 1#8 <<< b.val) = v := by
    rw [clearBit, ← BitVec.and_or_distrib_left, BitVec.or_comm, BitVec.or_not_self, BitVec.and_allOnes]
  rw [← and_bitMask_toNat, ← or_toNat_of_and_eq_zero hdisjoint, hparts]

theorem clearBit_toNat : (clearBit v b).toNat = v.toNat - v.toNat / 2 ^ b.val % 2 * 2 ^ b.val :=
  Nat.eq_sub_of_add_eq (clearBit_toNat_add v b)

/-- A byte with the bit set is its cleared byte and that bit. -/
theorem setBit_toNat : (setBit v b).toNat = v.toNat + (1 - v.toNat / 2 ^ b.val % 2) * 2 ^ b.val := by
  have hparts : setBit v b = clearBit v b ||| 1#8 <<< b.val := by
    refine BitVec.eq_of_getLsbD_eq fun i hi => ?_
    rw [setBit, clearBit, BitVec.getLsbD_or, BitVec.getLsbD_or, BitVec.getLsbD_and, BitVec.getLsbD_not]
    cases (1#8 <<< b.val).getLsbD i <;> simp [hi]
  have hsum := clearBit_toNat_add v b
  rw [hparts, or_toNat_of_and_eq_zero (clearBit_and_bitMask v b), bitMask_toNat]
  rcases Nat.mod_two_eq_zero_or_one (v.toNat / 2 ^ b.val) with hbit | hbit <;> rw [hbit] at hsum ⊢ <;> omega

theorem clearBit_eq_ofNat :
    clearBit v b = BitVec.ofNat 8 (v.toNat - v.toNat / 2 ^ b.val % 2 * 2 ^ b.val) := by
  rw [← clearBit_toNat, BitVec.ofNat_toNat, BitVec.setWidth_eq]

theorem setBit_eq_ofNat :
    setBit v b = BitVec.ofNat 8 (v.toNat + (1 - v.toNat / 2 ^ b.val % 2) * 2 ^ b.val) := by
  rw [← setBit_toNat, BitVec.ofNat_toNat, BitVec.setWidth_eq]

end

section
variable {s : State} {i : Instr}

theorem computesFlags_of_bitTest {b : Fin 8} {v : Byte} {cycles : Nat}
    (hexec : exec i s = .next (s.bitTest b v cycles)) :
    ComputesFlags i s (decide (v.toNat / 2 ^ b.val % 2 = 0)) false true s.fC 2 cycles := by
  rw [← testBit_zf]
  exact computesFlags_of_exec (by decide) hexec

theorem SameRegs.reg {t : State} (h : SameRegs s t) (q : Reg8) : t.reg q = s.reg q := by
  have hregs : t.regs = s.regs := h
  cases q <;> simp only [State.reg, hregs]

/-- A store at HL rewrites the byte there and keeps F. -/
theorem StoresByte.rewritesByte {v : Byte} {len cycles : Nat} (h : StoresByte i s s.hl v len cycles) :
    RewritesByte i s v.toNat s.regs.f.toNat len cycles := by
  obtain ⟨t, hexec, hregs, hsp, hadvances, houtside, hstores, hread⟩ := h
  refine ⟨t, hexec, by rw [hregs], fun q _ => hregs.reg q, hsp, hadvances, ?_, hstores,
    fun hplain => congrArg BitVec.toNat (hread hplain)⟩
  rwa [BitVec.ofNat_toNat, BitVec.setWidth_eq]

theorem rewritesByte_of_bitMem {v : Byte} (hexec : exec i s = .next (s.bitMem v)) :
    RewritesByte i s v.toNat s.regs.f.toNat 2 4 :=
  (storesByte_of_exec (by decide) hexec).rewritesByte

end

/-- Settles O39: Z is that of the bit in its place. -/
theorem bitTestForms : Obligations.BitTestForms := fun s b r =>
  ⟨⟨encodedAs_bitR b r, computesFlags_of_bitTest (exec_bitR s b r)⟩,
    encodedAs_bit_b_mHL b, computesFlags_of_bitTest rfl⟩

/-- Settles O40: the register forms are loads of the new byte, and the (HL) forms stores of it. -/
theorem resetAndSetBit : Obligations.ResetAndSetBit := by
  intro s b r
  rw [← clearBit_eq_ofNat, ← setBit_eq_ofNat, ← clearBit_toNat, ← setBit_toNat]
  exact ⟨⟨encodedAs_resR b r, loadsByte_of_exec (by decide) (exec_resR s b r)⟩,
    ⟨encodedAs_setR b r, loadsByte_of_exec (by decide) (exec_setR s b r)⟩,
    ⟨encodedAs_res_b_mHL b, rewritesByte_of_bitMem rfl⟩,
    encodedAs_set_b_mHL b, rewritesByte_of_bitMem rfl⟩

end Sys2Proof.Machine
end

section
/-! SUPPORT. Control transfer (46_control.md): where a conditional transfer goes, and the three shapes in which jumps,
calls and returns end (R290 to R301). -/

namespace Sys2Proof.Machine

open Sys2Proof

/-! ## Encodings of the families -/

section
variable (cc : Cond) (nn : Word) (e : Byte)

theorem encodedAs_jpCond : EncodedAs (.jpCond cc nn) [0xC2 + 8 * codeCond cc, nn.toNat % 256, nn.toNat / 256] :=
  encodedAs_of_word (by cases cc <;> rfl)

theorem encodedAs_jrCond : EncodedAs (.jrCond cc e) [0x20 + 8 * codeCond cc, e.toNat] :=
  encodedAs_of_byte (by cases cc <;> rfl)

theorem encodedAs_callCond : EncodedAs (.callCond cc nn) [0xC4 + 8 * codeCond cc, nn.toNat % 256, nn.toNat / 256] :=
  encodedAs_of_word (by cases cc <;> rfl)

theorem encodedAs_retCond : EncodedAs (.retCond cc) [0xC0 + 8 * codeCond cc] := by cases cc <;> rfl

end

theorem encodedAs_rst (y : Fin 8) : EncodedAs (.rst y) [0xC7 + 8 * y.val] := by
  match y with
  | 0 | 1 | 2 | 3 | 4 | 5 | 6 | 7 => rfl

namespace State

variable {s : State} {i : Instr}

/-! ## The condition selects the operation (R301) -/

theorem exec_of_cond {cc : Cond} {t u : State} (hexec : exec i s = .next (if s.cond cc then t else u)) :
    (s.cond cc = true → exec i s = .next t) ∧ (s.cond cc = false → exec i s = .next u) :=
  ⟨fun h => by rw [hexec, if_pos h], fun h => by rw [hexec, if_neg (Bool.eq_false_iff.mp h)]⟩

/-! ## Jumps (R290 to R294) -/

theorem goesTo_jump {u : State} (hcycle : u.cycle = s.cycle) (a : Word) (n : Nat) :
    GoesTo s (u.jump a n) a.toNat n :=
  ⟨rfl, by rw [jump_cpuNext, hcycle]⟩

theorem jumpsTo_of_jump {a : Word} {n : Nat} (hexec : exec i s = .next (s.jump a n)) : JumpsTo i s a.toNat n :=
  ⟨_, hexec, rfl, rfl, goesTo_jump rfl a n, s.sameOutside_jump a n⟩

/-- Falling through is a jump to the next instruction. -/
theorem jumpsTo_of_finish {len n : Nat} (hlen : len < 65536) (hexec : exec i s = .next (s.finish len n)) :
    JumpsTo i s ((s.pc.toNat + len) % 65536) n := by
  rw [← s.pcNext_toNat hlen]
  exact jumpsTo_of_jump hexec

theorem relative_toNat (s : State) (e : Byte) : (s.relative e).toNat = signedSum (s.pc + 2) e :=
  add_sext16_toNat _ e

/-! ## Calls (R295, R296, R300) -/

theorem calls_of_exec {a : Word} {len n : Nat} (hexec : exec i s = .next (s.callTo a len n)) :
    ∃ t, exec i s = .next t ∧ SameRegs s t ∧ GoesTo s t a.toNat n ∧ Pushed s t (s.pcNext len) :=
  ⟨_, hexec, s.push16_regs _, goesTo_jump (s.push16_cycle _) a n,
    pushed_push16 s (sameOutside_jump _ a n) (s.push16_sp _)⟩

theorem rstVector_toNat (y : Fin 8) : (BitVec.ofNat 16 (8 * y.val)).toNat = 8 * y.val := by
  rw [BitVec.toNat_ofNat]
  omega

/-! ## Returns (R297 to R299) -/

/-- RETI is a return with IME set first: the pop does not depend on IME. -/
theorem exec_reti (s : State) : exec .reti s = .next ({ s with ime := true }.returnTo 4) := rfl

theorem returns_of_exec {m : Bool} {n : Nat} (hexec : exec i s = .next ({ s with ime := m }.returnTo n)) :
    ∃ t, exec i s = .next t ∧ SameRegs s t ∧
      GoesTo s t (256 * (s.busRead (s.sp + 1)).toNat + (s.busRead s.sp).toNat) n ∧
      t.sp.toNat = (s.sp.toNat + 2) % 65536 ∧ SameOutside { s with ime := m } t := by
  refine ⟨_, hexec, rfl, ?_, BitVec.toNat_add _ _, (sameOutside_setSP _ _).trans (sameOutside_jump _ _ n)⟩
  rw [← s.top16_toNat]
  exact goesTo_jump rfl s.top16 n

end State

open State

/-- Settles O41: each form, and each case of a conditional form, is one jump or the end of the instruction. -/
theorem jumpForms : Obligations.JumpForms := by
  intro s nn e cc
  obtain ⟨hjp, hjpNot⟩ := exec_of_cond (exec_jpCond s cc nn)
  obtain ⟨hjr, hjrNot⟩ := exec_of_cond (exec_jrCond s cc e)
  rw [← s.relative_toNat]
  exact ⟨⟨encodedAs_of_word rfl, jumpsTo_of_jump rfl⟩, ⟨rfl, jumpsTo_of_jump rfl⟩,
    ⟨encodedAs_of_byte rfl, jumpsTo_of_jump rfl⟩,
    ⟨encodedAs_jpCond cc nn, fun h => jumpsTo_of_jump (hjp h), fun h => jumpsTo_of_finish (by decide) (hjpNot h)⟩,
    encodedAs_jrCond cc e, fun h => jumpsTo_of_jump (hjr h), fun h => jumpsTo_of_finish (by decide) (hjrNot h)⟩

/-- Settles O42: a taken form is one push of the next address and one jump. -/
theorem callForms : Obligations.CallForms := by
  intro s nn cc y
  obtain ⟨htaken, hnot⟩ := exec_of_cond (exec_callCond s cc nn)
  have hrst := calls_of_exec (exec_rst s y)
  rw [rstVector_toNat] at hrst
  exact ⟨⟨encodedAs_of_word rfl, calls_of_exec rfl⟩,
    ⟨encodedAs_callCond cc nn, fun h => calls_of_exec (htaken h), fun h => jumpsTo_of_finish (by decide) (hnot h)⟩,
    encodedAs_rst y, hrst⟩

theorem retCond_ne_ret (cc : Cond) : Instr.retCond cc ≠ .ret := by cases cc <;> nofun

theorem retCond_ne_reti (cc : Cond) : Instr.retCond cc ≠ .reti := by cases cc <;> nofun

/-- Settles O43: a taken form is one return, which RETI makes with IME set. -/
theorem returnForms : Obligations.ReturnForms := by
  intro s cc i byte cycles h
  rcases h with h | h | h <;> cases h
  · rw [decide_eq_false nofun, Bool.or_false]
    exact ⟨rfl, fun _ => returns_of_exec (m := s.ime) rfl, fun h => absurd h.symm (retCond_ne_ret cc)⟩
  · rw [decide_eq_true rfl, Bool.or_true]
    exact ⟨rfl, fun _ => returns_of_exec (exec_reti s), fun h => absurd h.symm (retCond_ne_reti cc)⟩
  · obtain ⟨htaken, hnot⟩ := exec_of_cond (exec_retCond s cc)
    rw [decide_eq_false (retCond_ne_reti cc), Bool.or_false]
    exact ⟨encodedAs_retCond cc, fun h => returns_of_exec (m := s.ime) (htaken (h rfl)),
      fun _ h => jumpsTo_of_finish (by decide) (hnot h)⟩

end Sys2Proof.Machine
end

section
/-! SUPPORT. The system instructions (47_system.md R310 to R315): their ends, and which instructions are fatal. -/

namespace Sys2Proof.Machine

open Sys2Proof

open State

/-- DI and EI: IME is written, and the instruction ends. -/
theorem writesIme_of_exec {i : Instr} {s : State} {m : Bool} (hexec : exec i s = .next ({ s with ime := m }.finish 1 1)) :
    ∃ t, exec i s = .next t ∧ SameRegs s t ∧ t.sp = s.sp ∧ Advances s t 1 1 ∧ t.ime = m ∧
      SameOutside { s with ime := m } t :=
  ⟨_, hexec, rfl, rfl, advances_finish (by decide) 1 rfl rfl, rfl, sameOutside_finish _ 1 1⟩

/-- Settles O44: NOP is the end of an instruction alone, DI a write of IME before it. -/
theorem nopAndDi : Obligations.NopAndDi := fun _ =>
  ⟨⟨rfl, jumpsTo_of_finish (by decide) rfl⟩, rfl, writesIme_of_exec rfl⟩

/-- Settles O45: EI is a write of IME before the end of the instruction; HALT moves PC and idles the CPU. -/
theorem eiAndHalt : Obligations.EiAndHalt := fun s =>
  ⟨⟨rfl, writesIme_of_exec rfl⟩, rfl, _, rfl, rfl, rfl, s.pcNext_toNat (by decide), rfl,
    .of_fields rfl rfl rfl rfl rfl rfl rfl rfl rfl rfl⟩

/-! ## Fatal and other instructions -/

theorem exec_of_illegal {i : Instr} {op : Byte} (hstop : i ≠ .stop) (hop : fatalOpcode? i = some op) (s : State) :
    exec i s = .fault (.illegalOpcode op s.pc) ∧ encode i = [op] := by
  cases i
  case stop => exact absurd rfl hstop
  all_goals cases hop
  all_goals exact ⟨rfl, rfl⟩

theorem exec_of_not_fatal {i : Instr} (h : fatalOpcode? i = none) (s : State) : ∃ t, exec i s = .next t := by
  cases i
  case stop | illegal_D3 | illegal_DB | illegal_DD | illegal_E3 | illegal_E4 | illegal_EB | illegal_EC | illegal_ED
      | illegal_F4 | illegal_FC | illegal_FD => cases h
  all_goals exact ⟨_, rfl⟩

/-- Settles O14: the meanings of STOP, of the eleven undefined encodings, and of every other instruction. -/
theorem onlyUndefinedOpcodesAreFatal : Obligations.OnlyUndefinedOpcodesAreFatal := fun _ s =>
  ⟨fun h => h ▸ rfl, fun _ hstop hop => exec_of_illegal hstop hop s, fun h => exec_of_not_fatal h s⟩

end Sys2Proof.Machine
end

section
/-! SUPPORT. Interrupt requests, and the CPU's cycle when it waits, wakes or takes an interrupt (60_exceptions.md R403 to
R411). -/

namespace Sys2Proof.Machine

open Sys2Proof

/-- The kind's bit stands at its index alone. -/
theorem Interrupt.bit_getLsbD (k : Interrupt) (j : Nat) : k.bit.getLsbD j = decide (j = k.index) := by
  have hindex : k.index < 8 := by cases k <;> decide
  rw [Interrupt.bit, ← BitVec.twoPow_eq, BitVec.getLsbD_twoPow, decide_eq_true hindex, Bool.true_and]
  exact decide_eq_decide.mpr eq_comm

/-- Settles O9: a request is one `or` with the kind's bit. -/
theorem requestInterruptSetsItsBit : Obligations.RequestInterruptSetsItsBit := fun s k =>
  ⟨fun j _ => by rw [State.requestInterrupt_iflag, BitVec.getLsbD_or, k.bit_getLsbD], rfl⟩

theorem Interrupt.vector_toNat (k : Interrupt) : k.vector.toNat = 0x40 + 8 * k.index := by cases k <;> rfl

namespace State

variable {d : State}

/-! ## The CPU's cycle -/

theorem cpuCycle_of_waiting {run : Instr → State → Result} {n : Nat} (h : d.cpuNext = .activeAt n) (hn : n ≠ d.cycle) :
    d.cpuCycle run = .next d := by
  simp [cpuCycle, wake_of_active h, h, hn]

theorem cpuCycle_of_idle_quiet {run : Instr → State → Result} (h : d.cpuNext = .idle) (hp : d.pending = 0#8) :
    d.cpuCycle run = .next d := by
  simp [cpuCycle, wake_of_quiet hp, h]

/-- An idle CPU with an enabled kind pending works in the same cycle. -/
theorem cpuCycle_of_idle_pending {run : Instr → State → Result} (h : d.cpuNext = .idle) (hp : d.pending ≠ 0#8) :
    d.cpuCycle run = ({ d with cpuNext := .activeAt d.cycle } : State).unitOfWork run := by
  rw [cpuCycle, wake_of_idle h hp, if_pos rfl]

/-- With IME clear it runs the instruction at PC. -/
theorem cpuCycle_of_woken {run : Instr → State → Result} (h : d.cpuNext = .idle) (hp : d.pending ≠ 0#8)
    (hime : d.ime = false) : d.cpuCycle run = run d.fetch { d with cpuNext := .activeAt d.cycle } :=
  (cpuCycle_of_idle_pending h hp).trans (unitOfWork_of_no_interrupt (interruptTaken_eq_none (.inl hime)))

theorem unitOfWork_of_interrupt {run : Instr → State → Result} {k : Interrupt} (h : d.interruptTaken = some k) :
    d.unitOfWork run = .next (d.dispatchInterrupt k) := by
  simp only [unitOfWork, h]

section
variable {k : Interrupt} (henabled : d.ie.getLsbD k.index = true ∧ d.iflag.getLsbD k.index = true)
  (hleast : ∀ j, j < k.index → ¬(d.ie.getLsbD j = true ∧ d.iflag.getLsbD j = true))
include henabled hleast

theorem leastPending_pending : leastPending d.pending = some k := leastPending_eq_some henabled hleast

theorem pending_ne_zero : d.pending ≠ 0#8 := fun h => by
  have hnone := leastPending_of_zero h
  rw [leastPending_pending henabled hleast] at hnone
  cases hnone

/-- With IME set an idle or a due CPU dispatches the least enabled pending kind, whatever its marker. -/
theorem cpuCycle_of_interrupt {run : Instr → State → Result} (hcpu : d.cpuNext = .idle ∨ d.cpuNext = .activeAt d.cycle)
    (hime : d.ime = true) : d.cpuCycle run = .next (d.dispatchInterrupt k) := by
  have htaken : ∀ x, ({ d with cpuNext := x } : State).interruptTaken = some k := fun _ =>
    (if_pos hime).trans (leastPending_pending henabled hleast)
  rcases hcpu with hidle | hdue
  · rw [cpuCycle_of_idle_pending hidle (pending_ne_zero henabled hleast), unitOfWork_of_interrupt (htaken _),
      dispatchInterrupt_cpuNext]
  · rw [cpuCycle_of_due hdue, unitOfWork_of_interrupt (htaken d.cpuNext)]

end

/-- A dispatch pushes PC once IME and the kind's bit of IF are cleared. -/
theorem pushed_dispatchInterrupt (d : State) (k : Interrupt) :
    Pushed { d with ime := false, iflag := d.iflag &&& ~~~k.bit } (d.dispatchInterrupt k) d.pc :=
  pushed_push16 _ (sameOutside_jump _ k.vector Config.dispatchCycles) (push16_sp _ d.pc)

end State

theorem step_of_cpuCycle {s t : State} (h : s.devicesCycle.cpuCycle exec = .next t) :
    step s = .next { t with cycle := t.cycle + 1 } := by
  rw [step, State.cycleWith, h]
  rfl

/-- Settles O7: a CPU that is not due, or idle with nothing pending, leaves the devices' state; one that wakes with IME
clear runs what it fetches. -/
theorem waitingAndWakingCpu : Obligations.WaitingAndWakingCpu := by
  refine fun s => ⟨fun n hcpu hn => step_of_cpuCycle (State.cpuCycle_of_waiting hcpu hn),
    fun hidle hquiet => step_of_cpuCycle (State.cpuCycle_of_idle_quiet hidle hquiet),
    fun hidle hpending hime i rest hdec => ?_⟩
  simp only [step, State.cycleWith, State.cpuCycle_of_woken hidle hpending hime, State.fetch_of_decode hdec]
  cases exec i _ <;> rfl

/-- Settles O8: the CPU's cycle is the dispatch of the kind, which pushes PC and jumps to the vector. -/
theorem interruptDispatch : Obligations.InterruptDispatch := by
  rintro s d k rfl hcpu hime henabled hleast
  refine ⟨_, step_of_cpuCycle (State.cpuCycle_of_interrupt henabled hleast hcpu hime), k.vector_toNat, ?_,
    State.push16_regs _ _, State.pushed_dispatchInterrupt _ k⟩
  exact congrArg (fun n => Sched.activeAt (n + 5)) (State.push16_cycle _ _)

end Sys2Proof.Machine
end

section
/-! SUPPORT. The timer (48_timer.md): its signal on numbers, what counting an edge does in each case, one step of it,
and n steps (R321 to R323, R329). -/

namespace Sys2Proof.Machine

open Sys2Proof

namespace Timer

/-! ## The signal (R321) -/

theorem selectedBit_eq {t : Timer} {bit : Nat} (h : [9, 3, 5, 7][t.tac.toNat % 4]? = some bit) : t.selectedBit = bit := by
  simp only [selectedBit]
  have hlt : t.tac.toNat % 4 < 4 := Nat.mod_lt _ (by decide)
  generalize t.tac.toNat % 4 = k at h hlt ⊢
  interval_cases k <;> simpa using h

theorem period_eq {t : Timer} {period : Nat} (h : [1024, 16, 64, 256][t.tac.toNat % 4]? = some period) :
    period = 2 ^ (t.selectedBit + 1) := by
  simp only [selectedBit]
  have hlt : t.tac.toNat % 4 < 4 := Nat.mod_lt _ (by decide)
  generalize t.tac.toNat % 4 = k at h hlt ⊢
  interval_cases k <;> simpa using h.symm

theorem selectedBit_lt (t : Timer) : t.selectedBit < 16 := by
  simp only [selectedBit]
  split <;> decide

theorem enabled_iff (tac : BitVec 3) : tac.getLsbD 2 = true ↔ 4 ≤ tac.toNat := by
  revert tac
  decide

theorem signal_iff (t : Timer) :
    t.signal = true ↔ 4 ≤ t.tac.toNat ∧ t.main.toNat.testBit t.selectedBit = true := by
  rw [signal, Bool.and_eq_true, enabled_iff]
  rfl

/-! ## Counting an edge (R321, R323) -/

section
variable {before after : Timer}

theorem countEdge_of_not_fall (h : ¬(before.signal = true ∧ after.signal = false)) :
    before.countEdge after = (after, 0#8) :=
  if_neg (by simpa using h)

theorem countEdge_of_fall (h : before.signal = true) (h' : after.signal = false) (htima : after.tima ≠ 0xFF#8) :
    before.countEdge after = ({ after with tima := after.tima + 1 }, 0#8) := by
  simp [countEdge, h, h', incTima, htima]

theorem countEdge_of_overflow (h : before.signal = true) (h' : after.signal = false) (htima : after.tima = 0xFF#8) :
    before.countEdge after = ({ after with tima := after.tma }, 0x04#8) := by
  simp [countEdge, h, h', incTima, htima, Interrupt.bit, Interrupt.index]

/-- Counting an edge writes TIMA alone. -/
theorem countEdge_frame (before after : Timer) :
    (before.countEdge after).1 = { after with tima := (before.countEdge after).1.tima } := by
  simp only [countEdge, incTima]
  split_ifs <;> rfl

end

/-! ## One step (R322) -/

theorem tick_frame (t : Timer) : t.tick.1 = { t with main := t.main + 1, tima := t.tick.1.tima } := countEdge_frame _ _

theorem tick_main_toNat (t : Timer) : t.tick.1.main.toNat = (t.main.toNat + 1) % 65536 := by
  rw [tick_frame]
  exact BitVec.toNat_add _ _

theorem tick_tma (t : Timer) : t.tick.1.tma = t.tma := by rw [tick_frame]

theorem tick_tac (t : Timer) : t.tick.1.tac = t.tac := by rw [tick_frame]

/-- The selected bit falls in the timer's next step while TAC[2] is set. -/
def Falls (t : Timer) : Prop := 4 ≤ t.tac.toNat ∧ t.main.toNat.testBit t.selectedBit = true ∧
  ((t.main.toNat + 1) % 65536).testBit t.selectedBit = false

theorem falls_iff_signal (t : Timer) :
    t.Falls ↔ t.signal = true ∧ ({ t with main := t.main + 1 } : Timer).signal = false := by
  have hmain : (t.main + 1).toNat = (t.main.toNat + 1) % 65536 := BitVec.toNat_add _ _
  have hbit : ({ t with main := t.main + 1 } : Timer).selectedBit = t.selectedBit := rfl
  rw [← Bool.not_eq_true, signal_iff, signal_iff, hbit, hmain, Falls, ← Bool.not_eq_true]
  tauto

section
variable {t : Timer}

theorem tick_of_not_falls (h : ¬t.Falls) : t.tick = ({ t with main := t.main + 1 }, 0#8) :=
  countEdge_of_not_fall (t.falls_iff_signal.not.mp h)

theorem tick_of_falls (h : t.Falls) (htima : t.tima.toNat < 255) :
    t.tick = ({ t with main := t.main + 1, tima := t.tima + 1 }, 0#8) := by
  obtain ⟨hbefore, hafter⟩ := t.falls_iff_signal.mp h
  have hne : t.tima ≠ 0xFF#8 := by bv_omega
  exact countEdge_of_fall hbefore hafter hne

theorem tick_of_overflow (h : t.Falls) (htima : t.tima.toNat = 255) :
    t.tick = ({ t with main := t.main + 1, tima := t.tma }, 0x04#8) := by
  obtain ⟨hbefore, hafter⟩ := t.falls_iff_signal.mp h
  exact countEdge_of_overflow hbefore hafter (BitVec.eq_of_toNat_eq htima)

end

/-! ## n steps (R329) -/

theorem ticks_tac (n : Nat) (t : Timer) : (ticks n t).1.tac = t.tac := by
  induction n with
  | zero => rfl
  | succ n ih => rw [ticks, tick_tac, ih]

theorem ticks_main_toNat (n : Nat) (t : Timer) : (ticks n t).1.main.toNat = (t.main.toNat + n) % 65536 := by
  induction n with
  | zero => exact (Nat.mod_eq_of_lt t.main.isLt).symm
  | succ n ih =>
    rw [ticks, tick_main_toNat, ih]
    omega

/-- Bit b falls from m to m + 1 exactly when m + 1 is the next multiple of 2 ^ (b + 1). -/
theorem testBit_falls_iff (m b : Nat) : (m.testBit b = true ∧ (m + 1).testBit b = false) ↔
    (m + 1) / 2 ^ (b + 1) = m / 2 ^ (b + 1) + 1 := by
  have hsucc : (m + 1) / 2 ^ b = m / 2 ^ b + if 2 ^ b ∣ m + 1 then 1 else 0 := Nat.succ_div
  simp only [Nat.testBit_eq_decide_div_mod_eq, decide_eq_true_eq, decide_eq_false_iff_not, Nat.pow_succ,
    ← Nat.div_div_eq_div_mul]
  generalize (m + 1) / 2 ^ b = q' at hsucc ⊢
  split at hsucc <;> omega

section
variable {t : Timer} {n : Nat}

theorem ticks_selectedBit : (ticks n t).1.selectedBit = t.selectedBit := by simp only [selectedBit, ticks_tac]

theorem ticks_falls_iff (h : 4 ≤ t.tac.toNat) : (ticks n t).1.Falls ↔
    (t.main.toNat + (n + 1)) / 2 ^ (t.selectedBit + 1) = (t.main.toNat + n) / 2 ^ (t.selectedBit + 1) + 1 := by
  have hbit := t.selectedBit_lt
  rw [← Nat.add_assoc, ← testBit_falls_iff, Falls, ticks_tac, ticks_selectedBit, ticks_main_toNat, Nat.mod_add_mod,
    show 65536 = 2 ^ 16 from rfl, Nat.testBit_mod_two_pow, Nat.testBit_mod_two_pow, decide_eq_true hbit]
  simp [h]

/-- How many multiples of the timer's period `main` reaches in n steps, counted before it wraps. -/
def periods (t : Timer) (n : Nat) : Nat :=
  (t.main.toNat + n) / 2 ^ (t.selectedBit + 1) - t.main.toNat / 2 ^ (t.selectedBit + 1)

theorem periods_succ (h : 4 ≤ t.tac.toNat) : ((ticks n t).1.Falls ∧ t.periods (n + 1) = t.periods n + 1) ∨
    (¬(ticks n t).1.Falls ∧ t.periods (n + 1) = t.periods n) := by
  have hmono : t.main.toNat / 2 ^ (t.selectedBit + 1) ≤ (t.main.toNat + n) / 2 ^ (t.selectedBit + 1) :=
    Nat.div_le_div_right (Nat.le_add_right _ _)
  have hsucc : (t.main.toNat + (n + 1)) / 2 ^ (t.selectedBit + 1) = _ := Nat.succ_div
  rw [ticks_falls_iff h, periods, periods]
  generalize (t.main.toNat + (n + 1)) / 2 ^ (t.selectedBit + 1) = q' at hsucc ⊢
  change q' = (t.main.toNat + n) / 2 ^ (t.selectedBit + 1) + _ at hsucc
  split at hsucc <;> omega

/-- An enabled timer has counted the multiples of its period that `main` reached, while none of them overflows. -/
theorem ticks_of_enabled (h : 4 ≤ t.tac.toNat) (hle : t.tima.toNat + t.periods n ≤ 255) :
    (ticks n t).1.tima.toNat = t.tima.toNat + t.periods n ∧ (ticks n t).2 = 0#8 := by
  induction n with
  | zero => simp [ticks, periods]
  | succ n ih =>
    rcases periods_succ (n := n) h with ⟨hfalls, hnext⟩ | ⟨hfalls, hnext⟩ <;> rw [hnext] at hle ⊢
    · obtain ⟨htima, hquiet⟩ := ih (by omega)
      rw [ticks, tick_of_falls hfalls (by omega), hquiet]
      refine ⟨?_, BitVec.or_zero⟩
      rw [BitVec.toNat_add, htima]
      exact Nat.mod_eq_of_lt (Nat.lt_succ_of_le hle)
    · obtain ⟨htima, hquiet⟩ := ih hle
      rw [ticks, tick_of_not_falls hfalls, hquiet]
      exact ⟨htima, BitVec.or_zero⟩

theorem ticks_of_disabled (h : t.tac.toNat < 4) : (ticks n t).1.tima = t.tima ∧ (ticks n t).2 = 0#8 := by
  induction n with
  | zero => exact ⟨rfl, rfl⟩
  | succ n ih =>
    have hfalls : ¬(ticks n t).1.Falls := fun hf => absurd hf.1 (by rw [ticks_tac]; omega)
    rw [ticks, tick_of_not_falls hfalls, ih.2]
    exact ⟨ih.1, BitVec.or_zero⟩

end

end Timer

/-- Settles O50: the step's three cases, as the selected bit falls and TIMA overflows or not. -/
theorem timerCountsFallingEdges : Obligations.TimerCountsFallingEdges := by
  intro s bit falls hbit hfalls
  have hfalls : falls ↔ s.timer.Falls := by
    rw [hfalls, ← Timer.selectedBit_eq hbit]
    rfl
  refine ⟨s.timer.tick_main_toNat, s.timer.tick_tma, s.timer.tick_tac, fun h => ?_, fun h htima => ?_,
    fun h htima => ?_, rfl⟩
  · rw [State.timerCycle, Timer.tick_of_not_falls (hfalls.not.mp h)]
    exact ⟨rfl, BitVec.or_zero⟩
  · rw [State.timerCycle, Timer.tick_of_falls (hfalls.mp h) htima]
    refine ⟨(BitVec.toNat_add _ _).trans (Nat.mod_eq_of_lt ?_), BitVec.or_zero⟩
    show s.timer.tima.toNat + 1 < 256
    omega
  · rw [State.timerCycle, Timer.tick_of_overflow (hfalls.mp h) htima]
    exact ⟨rfl, rfl⟩

/-- Settles O52: by induction on the steps, since the selected bit falls exactly when `main` reaches a multiple of the
period. -/
theorem timerPeriod : Obligations.TimerPeriod := by
  rintro t n period count hperiod rfl
  rw [Timer.period_eq hperiod]
  exact ⟨Timer.ticks_main_toNat n t, fun h hle => Timer.ticks_of_enabled h hle, fun h => Timer.ticks_of_disabled h⟩

end Sys2Proof.Machine
end

section
/-! SUPPORT. The registers of the timer and of the LCD controller on the bus of a core platform: one component owns each
of their addresses, so a read is that component's and a write is its own, up to stored bytes (20_memory.md R62 to R65,
R73). -/

namespace Sys2Proof.Machine

open Sys2Proof

namespace State

/-- A component that owns no register at the address changes stored bytes at most. -/
theorem componentWrite_mem_only {d : Component} {a : Word}
    (h : d ∈ [Component.cpu, .timer, .lcd] → d.owns a = false) (s : State) (v : Byte) :
    ∃ m, s.componentWrite d a v = { s with mem := m } := by
  cases hk : d.keepsWrites
  · cases d <;> simp only [Component.keepsWrites, reduceCtorEq] at hk
    case cpu | timer | lcd => exact ⟨_, componentWrite_of_not_owns (h (by simp)) s v⟩
    case rom | overlay => exact ⟨_, rfl⟩
  · rcases componentWrite_storage hk s a v with he | ⟨k, -, he⟩
    · exact ⟨_, he⟩
    · exact ⟨_, he⟩

theorem foldl_componentWrite_mem_only {ds : List Component} {a : Word}
    (h : ∀ d ∈ ds, d ∈ [Component.cpu, .timer, .lcd] → d.owns a = false) (s : State) (v : Byte) :
    ∃ m, ds.foldl (fun t d => t.componentWrite d a v) s = { s with mem := m } := by
  refine foldl_componentWrite_induct (P := fun t => ∃ m, t = { s with mem := m }) ?_ s ⟨s.mem, rfl⟩
  rintro _ d hd ⟨m, rfl⟩
  obtain ⟨m', he⟩ := componentWrite_mem_only (h d hd) { s with mem := m } v
  exact ⟨m', he⟩

variable {s : State} {d : Component} {a : Word} {pre post : List Component}

/-- The write of an address is that of the one device that owns it, up to stored bytes. -/
theorem busWrite_device (hdev : d = .timer ∨ d = .lcd) (hbus : s.bus = pre ++ d :: post)
    (hothers : ∀ e ∈ pre ++ post, e ∈ [Component.cpu, .timer, .lcd] → e.owns a = false) (v : Byte) :
    ∃ m, s.busWrite a v = { s.componentWrite d a v with mem := m } := by
  obtain ⟨m, hpre⟩ := foldl_componentWrite_mem_only (fun e he => hothers e (List.mem_append_left _ he)) s v
  have hd : ({ s with mem := m } : State).componentWrite d a v = { s.componentWrite d a v with mem := m } := by
    rcases hdev with rfl | rfl
    · rfl
    · simp only [componentWrite]
      split <;> rfl
  obtain ⟨m', hpost⟩ := foldl_componentWrite_mem_only (fun e he => hothers e (List.mem_append_right _ he))
    { s.componentWrite d a v with mem := m } v
  exact ⟨m', by rw [busWrite, hbus, List.foldl_append, List.foldl_cons, hpre, hd, hpost]⟩

/-- A read is answered by the first component that owns the address. -/
theorem busRead_of_pre (hbus : s.bus = pre ++ d :: post) (hpre : ∀ e ∈ pre, e.owns a = false) {b : Byte}
    (hread : d.read s a = some b) : s.busRead a = b := by
  have hnone : pre.findSome? (fun e => e.read s a) = none :=
    List.findSome?_eq_none_iff.mpr fun e he => Component.read_eq_none (hpre e he) s
  rw [busRead, hbus, List.findSome?_append, hnone, List.findSome?_cons, hread]
  rfl

end State

/-- Storage is none of the core's devices. -/
theorem corePlatform_split {bus : List Component} (h : corePlatform bus) :
    ∃ rest, bus = .cpu :: .timer :: .lcd :: rest ∧ ∀ e ∈ rest, e ∉ [Component.cpu, .timer, .lcd] := by
  obtain ⟨ext, rfl, hext⟩ := h
  refine ⟨.vram :: .oam :: ext, rfl, fun e he => ?_⟩
  rcases List.mem_cons.mp he with rfl | he
  · simp
  rcases List.mem_cons.mp he with rfl | he
  · simp
  rcases hext e he with ⟨_, _, _, _, rfl⟩ | ⟨_, _, _, rfl⟩ | ⟨_, _, _, _, rfl⟩ <;> simp

section
variable (r : TimerReg) (q : LcdReg)

theorem cpu_not_owns_timerReg : Component.cpu.owns r.addr = false := by cases r <;> rfl
theorem lcd_not_owns_timerReg : Component.lcd.owns r.addr = false := by cases r <;> rfl
theorem cpu_not_owns_lcdReg : Component.cpu.owns q.addr = false := by cases q <;> rfl
theorem timer_not_owns_lcdReg : Component.timer.owns q.addr = false := by cases q <;> rfl

end

namespace State

variable {s : State} (h : corePlatform s.bus)
include h

theorem busRead_timerReg (r : TimerReg) : s.busRead r.addr = s.timer.readReg r := by
  obtain ⟨rest, hbus, -⟩ := corePlatform_split h
  exact busRead_of_pre (pre := [.cpu]) hbus (by simp [cpu_not_owns_timerReg]) (Timer.read_addr r s.timer)

theorem busRead_lcdReg (r : LcdReg) : s.busRead r.addr = s.lcd.readReg r := by
  obtain ⟨rest, hbus, -⟩ := corePlatform_split h
  exact busRead_of_pre (pre := [.cpu, .timer]) hbus (by simp [cpu_not_owns_lcdReg, timer_not_owns_lcdReg])
    (Lcd.read_addr r s.lcd)

theorem busWrite_timerReg (r : TimerReg) (v : Byte) :
    ∃ m, s.busWrite r.addr v = { s.withTimer (s.timer.writeReg r v) with mem := m } := by
  obtain ⟨rest, hbus, hrest⟩ := corePlatform_split h
  rw [← Timer.write_addr]
  refine busWrite_device (.inl rfl) (pre := [.cpu]) hbus (fun e he hdev => ?_) v
  rcases List.mem_cons.mp he with rfl | he
  · exact cpu_not_owns_timerReg r
  rcases List.mem_cons.mp he with rfl | he
  · exact lcd_not_owns_timerReg r
  · exact absurd hdev (hrest e he)

theorem busWrite_lcdReg (r : LcdReg) (v : Byte) : ∃ m, s.busWrite r.addr v =
    { s.withLcd (s.lcd.writeReg r v) with mem := m, dma := if r = .dma then Dma.start v else s.dma } := by
  obtain ⟨rest, hbus, hrest⟩ := corePlatform_split h
  have hown : s.componentWrite .lcd r.addr v =
      { s.withLcd (s.lcd.writeReg r v) with dma := if r = .dma then Dma.start v else s.dma } := by
    rw [componentWrite, Lcd.write_addr]
    cases r <;> rfl
  obtain ⟨m, hm⟩ : ∃ m, s.busWrite r.addr v = { s.componentWrite .lcd r.addr v with mem := m } := by
    refine busWrite_device (.inr rfl) (pre := [.cpu, .timer]) hbus (fun e he hdev => ?_) v
    rcases List.mem_cons.mp he with rfl | he
    · exact cpu_not_owns_lcdReg r
    rcases List.mem_cons.mp he with rfl | he
    · exact timer_not_owns_lcdReg r
    · exact absurd hdev (hrest e he)
  exact ⟨m, by rw [hm, hown]⟩

section
variable (r : LcdReg) (v : Byte)

theorem busWrite_lcdReg_lcd : (s.busWrite r.addr v).lcd = (s.lcd.writeReg r v).1 := by
  obtain ⟨m, hm⟩ := busWrite_lcdReg h r v
  rw [hm]
  rfl

theorem busWrite_lcdReg_iflag : (s.busWrite r.addr v).iflag = s.iflag ||| (s.lcd.writeReg r v).2 := by
  obtain ⟨m, hm⟩ := busWrite_lcdReg h r v
  rw [hm]
  rfl

theorem busWrite_lcdReg_dma : (s.busWrite r.addr v).dma = if r = .dma then Dma.start v else s.dma := by
  obtain ⟨m, hm⟩ := busWrite_lcdReg h r v
  rw [hm]

theorem busWrite_lcdReg_others : (s.busWrite r.addr v).ie = s.ie ∧ (s.busWrite r.addr v).timer = s.timer := by
  obtain ⟨m, hm⟩ := busWrite_lcdReg h r v
  rw [hm]
  exact ⟨rfl, rfl⟩

end

/-! ## The timer's registers (48_timer.md R324 to R327) -/

theorem busWrite_timerReg_timer (r : TimerReg) (v : Byte) :
    (s.busWrite r.addr v).timer = (s.timer.writeReg r v).1 := by
  obtain ⟨m, hm⟩ := busWrite_timerReg h r v
  rw [hm]
  rfl

theorem busWrite_timerReg_iflag (r : TimerReg) (v : Byte) :
    (s.busWrite r.addr v).iflag = s.iflag ||| (s.timer.writeReg r v).2 := by
  obtain ⟨m, hm⟩ := busWrite_timerReg h r v
  rw [hm]
  rfl

/-- A write of a register whose rule answers `t` and the requests `q`. -/
theorem timer_and_iflag_of_writeReg {r : TimerReg} {v q : Byte} {t : Timer} (hw : s.timer.writeReg r v = (t, q)) :
    (s.busWrite r.addr v).timer = t ∧ (s.busWrite r.addr v).iflag = s.iflag ||| q := by
  rw [busWrite_timerReg_timer h, busWrite_timerReg_iflag h, hw]
  exact ⟨rfl, rfl⟩

end State

end Sys2Proof.Machine
end

section
/-! SUPPORT. Reads and writes of the timer's registers (48_timer.md R324 to R327). -/

namespace Sys2Proof.Machine

open Sys2Proof

theorem truncate_eq_ofNat (v : Byte) : v.truncate 3 = BitVec.ofNat 3 v.toNat := BitVec.eq_of_toNat_eq (by simp)

/-- A write whose rule counts the timer's edge, by the edge's three cases. -/
theorem State.busWrite_countEdge {s : State} (h : corePlatform s.bus) {r : TimerReg} {v : Byte} {after : Timer}
    (hw : s.timer.writeReg r v = s.timer.countEdge after) (htima : after.tima = s.timer.tima) :
    (¬(s.timer.signal = true ∧ after.signal = false) →
      (s.busWrite r.addr v).timer = after ∧ (s.busWrite r.addr v).iflag = s.iflag) ∧
    (s.timer.signal = true → after.signal = false → s.timer.tima ≠ 0xFF#8 →
      (s.busWrite r.addr v).timer = { after with tima := after.tima + 1 } ∧
        (s.busWrite r.addr v).iflag = s.iflag) ∧
    (s.timer.signal = true → after.signal = false → s.timer.tima = 0xFF#8 →
      (s.busWrite r.addr v).timer = { after with tima := after.tma } ∧
        (s.busWrite r.addr v).iflag = s.iflag ||| 0x04#8) := by
  rw [← htima]
  refine ⟨fun hfall => ?_, fun hbefore hafter hne => ?_, fun hbefore hafter he => ?_⟩
  · simpa using timer_and_iflag_of_writeReg h (hw.trans (Timer.countEdge_of_not_fall hfall))
  · simpa using timer_and_iflag_of_writeReg h (hw.trans (Timer.countEdge_of_fall hbefore hafter hne))
  · exact timer_and_iflag_of_writeReg h (hw.trans (Timer.countEdge_of_overflow hbefore hafter he))

namespace State

variable {s : State} (h : corePlatform s.bus)
include h

theorem busWrite_div_main (v : Byte) : (s.busWrite Config.regDiv v).timer.main = 0#16 := by
  refine (congrArg Timer.main (busWrite_timerReg_timer h .div v)).trans ?_
  rw [Timer.writeReg, Timer.countEdge_frame]

/-- DIV reads 0x00 after any write of it (R326). -/
theorem busRead_div_busWrite_div (v : Byte) : (s.busWrite Config.regDiv v).busRead Config.regDiv = 0#8 := by
  refine (busRead_timerReg (by simpa using h) .div).trans ?_
  rw [Timer.readReg, busWrite_div_main h]
  rfl

end State

/-- Settles O51: each access is the timer's own, and DIV and TAC count the edge they cause. -/
theorem timerRegisterWrites : Obligations.TimerRegisterWrites := by
  intro s v h
  have hread := State.busRead_timerReg h
  have hsignal : ({ s.timer with main := 0#16 } : Timer).signal = false := by simp [Timer.signal]
  obtain ⟨hquiet, hfall, hoverflow⟩ := State.busWrite_countEdge h (r := .div) (v := v) rfl rfl
  obtain ⟨htimaTimer, htimaIf⟩ := State.timer_and_iflag_of_writeReg h (r := .tima) (v := v) rfl
  obtain ⟨htmaTimer, htmaIf⟩ := State.timer_and_iflag_of_writeReg h (r := .tma) (v := v) rfl
  refine ⟨(congrArg BitVec.toNat (hread .div)).trans (hiByte_toNat _), hread .tima, hread .tma,
    (congrArg BitVec.toNat (hread .tac)).trans (BitVec.toNat_setWidth_of_le (by decide)), htimaTimer,
    htimaIf.trans BitVec.or_zero, htmaTimer, htmaIf.trans BitVec.or_zero, State.busWrite_div_main h v,
    State.busRead_div_busWrite_div h v, fun hs => hquiet (by simp [hs]), fun hs => hfall hs hsignal,
    fun hs => hoverflow hs hsignal, ?_⟩
  rintro after rfl
  exact State.busWrite_countEdge h (r := .tac) (by rw [Timer.writeReg, truncate_eq_ofNat]) rfl

end Sys2Proof.Machine
end

section
/-! SUPPORT. The LCD controller's rules as equations (49_lcd_dma.md R345 to R352, R372, R373): what each writes in STAT,
bit by bit, and the record and the requests it answers. -/

namespace Sys2Proof.Machine

open Sys2Proof

/-! ## Requests (R351, R352) -/

theorem lcdRequests_or (v s v' s' : Bool) :
    lcdRequests v s ||| lcdRequests v' s' = lcdRequests (v || v') (s || s') := by
  revert v s v' s'
  decide

namespace Lcd

/-! ## STAT, bit by bit -/

/-- STAT with a mode in its low two bits. -/
def statWithMode (stat : Byte) (m : BitVec 2) : Byte := (stat &&& 0xFC#8) ||| m.zeroExtend 8

/-- STAT with the comparison's result in bit 2. -/
def statWithCompare (stat : Byte) (equal : Bool) : Byte := if equal then stat ||| 0x04#8 else stat &&& 0xFB#8

section
variable (stat : Byte) (m : BitVec 2) (equal : Bool)

theorem statWithMode_mode : (statWithMode stat m).extractLsb' 0 2 = m :=
  setModeBits_mode { Lcd.reset with stat := stat } m

theorem statWithMode_getLsbD {j : Nat} (hj : 2 ≤ j) : (statWithMode stat m).getLsbD j = stat.getLsbD j := by
  by_cases h8 : j < 8
  · interval_cases j <;> simp [statWithMode]
  · rw [BitVec.getLsbD_of_ge _ _ (Nat.le_of_not_lt h8), BitVec.getLsbD_of_ge _ _ (Nat.le_of_not_lt h8)]

theorem statWithCompare_two : (statWithCompare stat equal).getLsbD 2 = equal := by
  cases equal <;> simp [statWithCompare]

theorem statWithCompare_getLsbD {j : Nat} (hj : j ≠ 2) :
    (statWithCompare stat equal).getLsbD j = stat.getLsbD j := by
  by_cases h8 : j < 8
  · cases equal <;> interval_cases j <;> first | contradiction | simp [statWithCompare]
  · rw [BitVec.getLsbD_of_ge _ _ (Nat.le_of_not_lt h8), BitVec.getLsbD_of_ge _ _ (Nat.le_of_not_lt h8)]

theorem statWithCompare_mode : (statWithCompare stat equal).extractLsb' 0 2 = stat.extractLsb' 0 2 := by
  ext j hj
  have h := statWithCompare_getLsbD stat equal (j := j) (by omega)
  simpa [hj] using h

end

/-- Bytes that agree from bit 3 on. -/
theorem div_eight_eq {x y : Byte} (h : ∀ j, 3 ≤ j → x.getLsbD j = y.getLsbD j) : x.toNat / 8 = y.toNat / 8 := by
  refine Nat.eq_of_testBit_eq fun i => ?_
  exact (Nat.testBit_div_two_pow x.toNat i (n := 3)).trans
    ((h (i + 3) (Nat.le_add_left 3 i)).trans (Nat.testBit_div_two_pow y.toNat i (n := 3)).symm)

theorem statWithMode_div_eight (stat : Byte) (m : BitVec 2) : (statWithMode stat m).toNat / 8 = stat.toNat / 8 :=
  div_eight_eq fun j hj => statWithMode_getLsbD stat m (by omega)

theorem statWithCompare_div_eight (stat : Byte) (equal : Bool) :
    (statWithCompare stat equal).toNat / 8 = stat.toNat / 8 :=
  div_eight_eq fun j hj => statWithCompare_getLsbD stat equal (by omega)

/-! ## The comparison and the modes -/

theorem compareLy_eq (l : Lcd) : l.compareLy = ({ l with stat := statWithCompare l.stat (decide (l.ly = l.lyc)) },
    lcdRequests false (l.stat.getLsbD 6 && decide (l.ly = l.lyc))) := by
  by_cases h : l.ly = l.lyc
  · simp only [compareLy, if_pos h, decide_eq_true h, Bool.and_true]
    cases l.stat.getLsbD 6 <;> rfl
  · simp only [compareLy, if_neg h, decide_eq_false h, Bool.and_false]
    rfl

theorem setLy_eq (l : Lcd) (v : Byte) :
    l.setLy v = ({ l with ly := v, stat := statWithCompare l.stat (decide (v = l.lyc)) },
      lcdRequests false (l.stat.getLsbD 6 && decide (v = l.lyc))) := compareLy_eq { l with ly := v }

section
variable (l : Lcd)

theorem modeRequests_eq (m : BitVec 2) : l.modeRequests m = lcdRequests (m == 1#2)
    ((m == 0#2 && l.stat.getLsbD 3) || (m == 1#2 && l.stat.getLsbD 4) || (m == 2#2 && l.stat.getLsbD 5)) := by
  rw [modeRequests]
  generalize (_ || _ : Bool) = lcdStat
  generalize (m == 1#2) = vBlank
  cases lcdStat <;> cases vBlank <;> rfl

theorem modeRequests_zero : l.modeRequests 0#2 = lcdRequests false (l.stat.getLsbD 3) := by
  simp [modeRequests_eq]

theorem modeRequests_one : l.modeRequests 1#2 = lcdRequests true (l.stat.getLsbD 4) := by simp [modeRequests_eq]

theorem modeRequests_two : l.modeRequests 2#2 = lcdRequests false (l.stat.getLsbD 5) := by simp [modeRequests_eq]

theorem modeRequests_three : l.modeRequests 3#2 = 0#8 := by simp [modeRequests_eq, lcdRequests]

end

theorem windowActive_eq (lcdc wx : Byte) :
    Compose.windowActive lcdc wx = (lcdc.getLsbD 5 && decide (7 ≤ wx.toNat ∧ wx.toNat ≤ 166)) := by
  rw [Compose.windowActive, Bool.and_assoc, Bool.decide_and]

/-! ## The mode machine's rules (R348, R350) -/

section
variable (read : Word → Byte) (l : Lcd) (c : Nat)

theorem powerOn_eq : l.powerOn c = ({ l with stat := statWithMode l.stat 2#2, next := .activeAt (c + 20) },
    lcdRequests false (l.stat.getLsbD 5)) := by
  rw [← l.modeRequests_two]
  rfl

theorem endMode2_eq : l.endMode2 read c =
    ({ l with stat := statWithMode l.stat 3#2, builder := l.builder.set l.ly.toNat (Compose.line read l),
              winLine := if l.winActive = true ∧ l.wy.toNat ≤ l.ly.toNat then l.winLine + 1 else l.winLine,
              next := .activeAt (c + 43) }, 0#8) := by
  have hdrawn : (l.winActive = true ∧ l.wy.toNat ≤ l.ly.toNat) ↔ Compose.windowDrawn l = true := by
    simp [Compose.windowDrawn]
  simp only [hdrawn]
  rw [← l.modeRequests_three]
  rfl

theorem endMode3_eq : l.endMode3 c = ({ l with stat := statWithMode l.stat 0#2, next := .activeAt (c + 51) },
    lcdRequests false (l.stat.getLsbD 3)) := by
  rw [← l.modeRequests_zero]
  rfl

theorem endMode0_last (h : l.ly = 143#8) : l.endMode0 c =
    ({ l with ly := 144#8, stat := statWithMode (statWithCompare l.stat (decide (144#8 = l.lyc))) 1#2,
              image := l.builder, next := .activeAt (c + 114) },
      lcdRequests true (l.stat.getLsbD 4 || (l.stat.getLsbD 6 && decide (144#8 = l.lyc)))) := by
  simp only [endMode0, if_pos h, setLy_eq, enterMode, modeRequests_one, statWithCompare_getLsbD, lcdRequests_or, ne_eq,
    Nat.reduceEqDiff, not_false_eq_true, Bool.false_or, Bool.or_comm]
  rfl

theorem endMode0_next (h : l.ly ≠ 143#8) : l.endMode0 c =
    ({ l with ly := l.ly + 1, stat := statWithMode (statWithCompare l.stat (decide (l.ly + 1 = l.lyc))) 2#2,
              next := .activeAt (c + 20) },
      lcdRequests false (l.stat.getLsbD 5 || (l.stat.getLsbD 6 && decide (l.ly + 1 = l.lyc)))) := by
  simp only [endMode0, if_neg h, setLy_eq, enterMode, modeRequests_two, statWithCompare_getLsbD, lcdRequests_or, ne_eq,
    Nat.reduceEqDiff, not_false_eq_true, Bool.false_or, Bool.or_comm]
  rfl

theorem endMode1_last (h : l.ly = 153#8) : l.endMode1 c =
    ({ l with ly := 0#8, stat := statWithMode (statWithCompare l.stat (decide (0#8 = l.lyc))) 2#2, winLine := 0,
              builder := blankFrame, next := .activeAt (c + 20) },
      lcdRequests false (l.stat.getLsbD 5 || (l.stat.getLsbD 6 && decide (0#8 = l.lyc)))) := by
  simp only [endMode1, if_pos h, setLy_eq, enterMode, modeRequests_two, statWithCompare_getLsbD, lcdRequests_or, ne_eq,
    Nat.reduceEqDiff, not_false_eq_true, Bool.false_or, Bool.or_comm]
  rfl

theorem endMode1_next (h : l.ly ≠ 153#8) : l.endMode1 c =
    ({ l with ly := l.ly + 1, stat := statWithCompare l.stat (decide (l.ly + 1 = l.lyc)), next := .activeAt (c + 114) },
      lcdRequests false (l.stat.getLsbD 6 && decide (l.ly + 1 = l.lyc))) := by
  simp only [endMode1, if_neg h, setLy_eq]

end

end Lcd

end Sys2Proof.Machine
end

section
/-! SUPPORT. The mode machine's transitions, the LCD turned off and on, and a visible line's timeline (49_lcd_dma.md
R347 to R353, R373). -/

namespace Sys2Proof.Machine

open Sys2Proof

namespace Lcd

variable {read : Word → Byte} {l : Lcd} {c : Nat}

/-! ## The transition from each mode -/

theorem transition_mode2 (h : l.mode.toNat = 2) : l.transition read c = l.endMode2 read c := by
  simp only [transition, h]

theorem transition_mode3 (h : l.mode.toNat = 3) : l.transition read c = l.endMode3 c := by
  simp only [transition, h]

theorem transition_mode0 (h : l.mode.toNat = 0) : l.transition read c = l.endMode0 c := by
  simp only [transition, h]

theorem transition_mode1 (h : l.mode.toNat = 1) : l.transition read c = l.endMode1 c := by
  simp only [transition, h]

theorem cycleModes_of_due (h : l.next = .activeAt c) : l.cycleModes read c = l.transition read c := by
  simp [cycleModes, h]

theorem toNat_mode_statWithMode (stat : Byte) (m : BitVec 2) :
    ((statWithMode stat m).extractLsb' 0 2).toNat = m.toNat := by rw [statWithMode_mode]

theorem statWithMode_compare_two (stat : Byte) (equal : Bool) (m : BitVec 2) :
    (statWithMode (statWithCompare stat equal) m).getLsbD 2 = equal := by
  rw [statWithMode_getLsbD _ _ le_rfl, statWithCompare_two]

theorem statWithMode_compare_div_eight (stat : Byte) (equal : Bool) (m : BitVec 2) :
    (statWithMode (statWithCompare stat equal) m).toNat / 8 = stat.toNat / 8 := by
  rw [statWithMode_div_eight, statWithCompare_div_eight]

/-- No transition writes the software's settings. -/
theorem sameSettings_transition (read : Word → Byte) (c : Nat) (l : Lcd) :
    Lcd.SameSettings l (l.transition read c).1 := by
  have hmode : l.mode.toNat < 4 := l.mode.isLt
  obtain h | h | h | h : l.mode.toNat = 2 ∨ l.mode.toNat = 3 ∨ l.mode.toNat = 0 ∨ l.mode.toNat = 1 := by omega
  · rw [transition_mode2 h, endMode2_eq]
    exact ⟨rfl, statWithMode_div_eight _ _, rfl, rfl, rfl, rfl, rfl, rfl, rfl, rfl, rfl, rfl⟩
  · rw [transition_mode3 h, endMode3_eq]
    exact ⟨rfl, statWithMode_div_eight _ _, rfl, rfl, rfl, rfl, rfl, rfl, rfl, rfl, rfl, rfl⟩
  · rw [transition_mode0 h]
    by_cases hly : l.ly = 143#8
    · rw [endMode0_last l c hly]
      exact ⟨rfl, statWithMode_compare_div_eight _ _ _, rfl, rfl, rfl, rfl, rfl, rfl, rfl, rfl, rfl, rfl⟩
    · rw [endMode0_next l c hly]
      exact ⟨rfl, statWithMode_compare_div_eight _ _ _, rfl, rfl, rfl, rfl, rfl, rfl, rfl, rfl, rfl, rfl⟩
  · rw [transition_mode1 h]
    by_cases hly : l.ly = 153#8
    · rw [endMode1_last l c hly]
      exact ⟨rfl, statWithMode_compare_div_eight _ _ _, rfl, rfl, rfl, rfl, rfl, rfl, rfl, rfl, rfl, rfl⟩
    · rw [endMode1_next l c hly]
      exact ⟨rfl, statWithCompare_div_eight _ _, rfl, rfl, rfl, rfl, rfl, rfl, rfl, rfl, rfl, rfl⟩

/-- The comparison of a byte with LYC, as numbers. -/
theorem decide_eq_lyc (v lyc : Byte) : decide (v = lyc) = decide (lyc.toNat = v.toNat) :=
  decide_eq_decide.mpr ⟨fun h => h ▸ rfl, fun h => (BitVec.eq_of_toNat_eq h).symm⟩

end Lcd

open Lcd

/-- Settles O53: each rule's equation, field by field. -/
theorem lcdModeTransitions : Obligations.LcdModeTransitions := by
  intro read l m q c hnext hm
  rw [cycleModes_of_due hnext] at hm
  refine ⟨?_, fun hmode => ?_, fun hmode => ?_, fun hmode hly => ?_, fun hmode hly => ?_, fun hmode hly => ?_,
    fun hmode hly => ?_⟩
  · have hsame := sameSettings_transition read c l
    rwa [hm] at hsame
  · rw [transition_mode2 hmode, endMode2_eq] at hm
    cases hm
    exact ⟨toNat_mode_statWithMode _ _, rfl, rfl, statWithMode_getLsbD _ _ le_rfl, rfl, rfl, rfl, rfl⟩
  · rw [transition_mode3 hmode, endMode3_eq] at hm
    cases hm
    exact ⟨toNat_mode_statWithMode _ _, rfl, rfl, statWithMode_getLsbD _ _ le_rfl, rfl, rfl, rfl, rfl⟩
  · rw [transition_mode0 hmode, endMode0_last l c (BitVec.eq_of_toNat_eq hly), decide_eq_lyc] at hm
    cases hm
    exact ⟨toNat_mode_statWithMode _ _, rfl, rfl, statWithMode_compare_two _ _ _, rfl, rfl, rfl, rfl⟩
  · rw [transition_mode0 hmode, endMode0_next l c fun h => hly (congrArg BitVec.toNat h)] at hm
    cases hm
    exact ⟨toNat_mode_statWithMode _ _, rfl, rfl, statWithMode_compare_two _ _ _, rfl, rfl, rfl, rfl⟩
  · rw [transition_mode1 hmode, endMode1_last l c (BitVec.eq_of_toNat_eq hly), decide_eq_lyc] at hm
    cases hm
    exact ⟨toNat_mode_statWithMode _ _, rfl, rfl, statWithMode_compare_two _ _ _, rfl, rfl, rfl, rfl⟩
  · rw [transition_mode1 hmode, endMode1_next l c fun h => hly (congrArg BitVec.toNat h)] at hm
    cases hm
    exact ⟨(congrArg BitVec.toNat (statWithCompare_mode _ _)).trans hmode, rfl, rfl, statWithCompare_two _ _, rfl, rfl,
      rfl, rfl⟩

/-! ## Off and on (R347, R348) -/

namespace Lcd

/-- A write of LCDC that turns the LCD off. -/
theorem writeLcdc_off {l : Lcd} {v : Byte} (hon : l.lcdc.getLsbD 7 = true) (hoff : v.getLsbD 7 = false) :
    l.writeLcdc v =
      ({ l with lcdc := v, stat := statWithCompare (statWithMode l.stat 0#2) (decide (l.lyc = 0#8)), ly := 0#8,
                winLine := 0, winActive := v.getLsbD 5 && decide (7 ≤ l.wx.toNat ∧ l.wx.toNat ≤ 166),
                builder := blankFrame, next := .idle },
        lcdRequests false (l.stat.getLsbD 6 && decide (l.lyc = 0#8))) := by
  rw [← windowActive_eq, decide_eq_decide.mpr (eq_comm (a := l.lyc)),
    ← statWithMode_getLsbD l.stat 0#2 (show 2 ≤ 6 by decide)]
  simp only [writeLcdc, hon, hoff, Bool.not_false, Bool.and_self, if_true, powerOff, setLy_eq]
  rfl

/-- Any other write of LCDC. -/
theorem writeLcdc_of_not_off {l : Lcd} {v : Byte} (h : l.lcdc.getLsbD 7 = true → v.getLsbD 7 = true) :
    l.writeLcdc v = ({ l with lcdc := v,
                              winActive := v.getLsbD 5 && decide (7 ≤ l.wx.toNat ∧ l.wx.toNat ≤ 166) }, 0#8) := by
  have hnot : ¬(l.lcdc.getLsbD 7 && !v.getLsbD 7) = true := by simpa using h
  rw [← windowActive_eq, writeLcdc, if_neg hnot]
  rfl

theorem cycleModes_idle_off {read : Word → Byte} {l : Lcd} {c : Nat} (h : l.next = .idle)
    (hoff : l.lcdc.getLsbD 7 = false) : l.cycleModes read c = (l, 0#8) := by
  simp only [cycleModes, h, hoff, Bool.false_eq_true, if_false]

theorem cycleModes_idle_on {read : Word → Byte} {l : Lcd} {c : Nat} (h : l.next = .idle)
    (hon : l.lcdc.getLsbD 7 = true) : l.cycleModes read c = l.powerOn c := by
  simp [cycleModes, h, hon]

end Lcd

/-- Settles O54: the write of LCDC is the controller's own, and its equation gives every field; so does that of the first
step with LCDC[7] set. -/
theorem lcdOffAndOn : Obligations.LcdOffAndOn := by
  refine ⟨fun s v h hon hoff => ?_, fun read l c hidle => ⟨fun hoff => cycleModes_idle_off hidle hoff, fun hon => ?_⟩⟩
  · obtain ⟨m, hw⟩ := State.busWrite_lcdReg h .lcdc v
    have hw : s.busWrite Config.regLcdc v = _ := hw
    rw [Lcd.writeReg, writeLcdc_off hon hoff] at hw
    rw [hw]
    refine ⟨rfl, ?_, rfl, rfl, rfl, rfl, rfl, rfl, statWithCompare_two _ _, ?_, rfl, rfl, rfl, rfl, rfl⟩
    · exact congrArg BitVec.toNat ((statWithCompare_mode _ _).trans (statWithMode_mode _ _))
    · exact (statWithCompare_div_eight _ _).trans (statWithMode_div_eight _ _)
  · rw [cycleModes_idle_on hidle hon, powerOn_eq]
    exact ⟨toNat_mode_statWithMode _ _, rfl,
      ⟨rfl, statWithMode_div_eight _ _, rfl, rfl, rfl, rfl, rfl, rfl, rfl, rfl, rfl, rfl⟩, rfl,
      statWithMode_getLsbD _ _ le_rfl, rfl, rfl, rfl, rfl⟩

/-! ## A visible line's timeline (R353) -/

namespace Lcd

variable {read : Word → Byte} {l : Lcd} {c e : Nat}

theorem cycles_add (n k : Nat) : Lcd.cycles read c (n + k) l = Lcd.cycles read (c + n) k (Lcd.cycles read c n l) := by
  induction k with
  | zero => rfl
  | succ k ih => rw [← Nat.add_assoc, Lcd.cycles, Lcd.cycles, ih, Nat.add_assoc]

/-- Until the cycle it waits for, the mode machine does nothing. -/
theorem cycles_of_waiting (h : l.next = .activeAt e) {k : Nat} (hk : c + k ≤ e) : Lcd.cycles read c k l = l := by
  induction k with
  | zero => rfl
  | succ k ih =>
    have hne : e ≠ c + k := by omega
    rw [Lcd.cycles, ih (by omega)]
    simp [cycleModes, h, hne]

/-- In the cycle it waits for, it makes its transition, then waits again. -/
theorem cycles_of_due {k n e' : Nat} {m : Lcd} (h : l.next = .activeAt (c + k)) (hm : (l.transition read (c + k)).1 = m)
    (hnext : m.next = .activeAt e') (hkn : k < n) (hn : c + n ≤ e') : Lcd.cycles read c n l = m := by
  obtain ⟨j, rfl⟩ := Nat.exists_eq_add_of_le (Nat.succ_le_of_lt hkn)
  have hdue : Lcd.cycles read c (k + 1) l = m := by
    rw [Lcd.cycles, cycles_of_waiting h le_rfl, cycleModes_of_due h, hm]
  rw [cycles_add, hdue]
  exact cycles_of_waiting hnext (by omega)

/-- The end of a visible line: the next one, or the vertical blank. -/
theorem endMode0_line (hly : l.ly.toNat ≤ 143) : (l.endMode0 c).1.ly.toNat = l.ly.toNat + 1 ∧
    (l.endMode0 c).1.mode.toNat = (if l.ly.toNat = 143 then 1 else 2) ∧
    (l.endMode0 c).1.next = .activeAt (c + (if l.ly.toNat = 143 then 114 else 20)) := by
  by_cases hlast : l.ly = 143#8
  · have h143 : l.ly.toNat = 143 := congrArg BitVec.toNat hlast
    rw [endMode0_last l c hlast, if_pos h143, if_pos h143, h143]
    exact ⟨rfl, toNat_mode_statWithMode _ 1#2, rfl⟩
  · have h143 : l.ly.toNat ≠ 143 := fun h => hlast (BitVec.eq_of_toNat_eq h)
    rw [endMode0_next l c hlast, if_neg h143, if_neg h143]
    refine ⟨(BitVec.toNat_add _ _).trans (Nat.mod_eq_of_lt ?_), toNat_mode_statWithMode _ 2#2, rfl⟩
    exact Nat.lt_of_le_of_lt (Nat.succ_le_succ hly) (by decide)

section
variable (hmode : l.mode.toNat = 2) (hnext : l.next = .activeAt (c + 20)) {n : Nat}
include hmode hnext

theorem cycles_line_mode3 (hn : 20 ≤ n) (hn' : n < 63) :
    Lcd.cycles read (c + 1) n l = (l.endMode2 read (c + 20)).1 :=
  cycles_of_due (k := 19) (e' := c + 20 + 43) hnext (congrArg Prod.fst (transition_mode2 hmode)) rfl (by omega)
    (by omega)

theorem cycles_line_mode0 (hn : 63 ≤ n) (hn' : n < 114) :
    Lcd.cycles read (c + 1) n l = ((l.endMode2 read (c + 20)).1.endMode3 (c + 63)).1 := by
  obtain ⟨j, rfl⟩ := Nat.exists_eq_add_of_le hn
  have hmode3 : (l.endMode2 read (c + 20)).1.mode.toNat = 3 := toNat_mode_statWithMode _ 3#2
  rw [show 63 + j = 62 + (1 + j) by omega, cycles_add, cycles_line_mode3 hmode hnext (by decide) (by decide)]
  exact cycles_of_due (k := 0) (e' := c + 63 + 51) rfl (congrArg Prod.fst (transition_mode3 hmode3)) rfl (by omega)
    (by omega)

theorem cycles_line_end : Lcd.cycles read (c + 1) 114 l =
    (((l.endMode2 read (c + 20)).1.endMode3 (c + 63)).1.endMode0 (c + 114)).1 := by
  have hmode0 : ((l.endMode2 read (c + 20)).1.endMode3 (c + 63)).1.mode.toNat = 0 := toNat_mode_statWithMode _ 0#2
  rw [Lcd.cycles, cycles_line_mode0 hmode hnext (by decide) (by decide),
    show c + 1 + 113 = c + 114 from rfl, cycleModes_of_due rfl, transition_mode0 hmode0]

end

end Lcd

/-- Settles O56: the mode machine waits but for the cycles in which modes 2, 3 and 0 end. -/
theorem lcdLineTimeline : Obligations.LcdLineTimeline := by
  intro read l c n hmode hnext hly
  refine ⟨fun hn => cycles_of_waiting hnext (by omega), fun hn hn' => ?_, fun hn hn' => ?_, ?_⟩
  · rw [cycles_line_mode3 hmode hnext hn hn']
    exact ⟨toNat_mode_statWithMode _ 3#2, rfl⟩
  · rw [cycles_line_mode0 hmode hnext hn hn']
    exact ⟨toNat_mode_statWithMode _ 0#2, rfl⟩
  · rintro rfl
    rw [cycles_line_end hmode hnext]
    exact endMode0_line (l := ((l.endMode2 read (c + 20)).1.endMode3 (c + 63)).1) hly

end Sys2Proof.Machine
end

section
/-! SUPPORT. Reads and writes of the twelve LCD registers (49_lcd_dma.md R342, R345, R352, R372, R381). -/

namespace Sys2Proof.Machine

open Sys2Proof

/-- The register's place among the twelve consecutive addresses (10_state.md R35). -/
def LcdReg.index : LcdReg → Nat
  | .lcdc => 0
  | .stat => 1
  | .scy => 2
  | .scx => 3
  | .ly => 4
  | .lyc => 5
  | .dma => 6
  | .bgp => 7
  | .obp0 => 8
  | .obp1 => 9
  | .wy => 10
  | .wx => 11

theorem LcdReg.addr_eq (r : LcdReg) : r.addr = 0xFF40#16 + BitVec.ofNat 16 r.index := by cases r <;> rfl

theorem LcdReg.exists_index {k : Nat} (h : k ≤ 11) : ∃ r : LcdReg, r.index = k := by
  interval_cases k
  exacts [⟨.lcdc, rfl⟩, ⟨.stat, rfl⟩, ⟨.scy, rfl⟩, ⟨.scx, rfl⟩, ⟨.ly, rfl⟩, ⟨.lyc, rfl⟩, ⟨.dma, rfl⟩, ⟨.bgp, rfl⟩,
    ⟨.obp0, rfl⟩, ⟨.obp1, rfl⟩, ⟨.wy, rfl⟩, ⟨.wx, rfl⟩]

/-- No register but LCDC and LYC requests an interrupt. -/
theorem Lcd.writeReg_request {r : LcdReg} (hlcdc : r ≠ .lcdc) (hlyc : r ≠ .lyc) (l : Lcd) (v : Byte) :
    (l.writeReg r v).2 = 0#8 := by
  cases r
  case lcdc => exact absurd rfl hlcdc
  case lyc => exact absurd rfl hlyc
  all_goals rfl

theorem and_F8_toNat (v : Byte) : (v &&& 0xF8#8).toNat = v.toNat / 8 * 8 := by revert v; decide +kernel

/-- STAT's five writable bits and its low three. -/
theorem statWrite_eq_ofNat (v stat : Byte) :
    (v &&& 0xF8#8) ||| (stat &&& 0x07#8) = BitVec.ofNat 8 (v.toNat / 8 * 8 + stat.toNat % 8) := by
  have hdisjoint : (v &&& 0xF8#8) &&& (stat &&& 0x07#8) = 0#8 := by
    ext j hj
    interval_cases j <;> simp
  have hlow : (stat &&& 0x07#8).toNat = stat.toNat % 8 := Nat.and_two_pow_sub_one_eq_mod stat.toNat 3
  have hlt := v.isLt
  apply BitVec.eq_of_toNat_eq
  rw [or_toNat_of_and_eq_zero hdisjoint, and_F8_toNat, hlow, BitVec.toNat_ofNat]
  exact (Nat.mod_eq_of_lt (by omega)).symm

theorem wordOf_zero_eq_ofNat (v : Byte) : wordOf v 0x00#8 = BitVec.ofNat 16 (256 * v.toNat) := by
  have hlt := v.isLt
  apply BitVec.eq_of_toNat_eq
  rw [wordOf_toNat, BitVec.toNat_ofNat]
  exact (Nat.mod_eq_of_lt (by omega)).symm

theorem Dma.start_eq (v : Byte) : Dma.start v = ⟨true, BitVec.ofNat 16 (256 * v.toNat), 0⟩ := by
  rw [Dma.start, wordOf_zero_eq_ofNat]

/-- Settles O55: the access is that of the register at its place, by its own rule. -/
theorem lcdRegisterWrites : Obligations.LcdRegisterWrites := by
  intro s v k t h hk ht
  have hwrite : ∀ r : LcdReg, r.index = k → t = s.busWrite r.addr v := by
    rintro r rfl
    rw [ht, r.addr_eq]
  have hlcd : ∀ r : LcdReg, r.index = k → t.lcd = (s.lcd.writeReg r v).1 := fun r hr => by
    rw [hwrite r hr, State.busWrite_lcdReg_lcd h]
  have hiflag : ∀ r : LcdReg, r.index = k → t.iflag = s.iflag ||| (s.lcd.writeReg r v).2 := fun r hr => by
    rw [hwrite r hr, State.busWrite_lcdReg_iflag h]
  have hdma : ∀ r : LcdReg, r.index = k → t.dma = if r = .dma then Dma.start v else s.dma := fun r hr => by
    rw [hwrite r hr, State.busWrite_lcdReg_dma h]
  obtain ⟨r, hr⟩ := LcdReg.exists_index hk
  have hread : s.busRead (0xFF40#16 + BitVec.ofNat 16 k) = s.lcd.readReg r := by
    rw [← hr, ← r.addr_eq]
    exact State.busRead_lcdReg h r
  obtain ⟨hie, htimer⟩ := State.busWrite_lcdReg_others h r v
  rw [← hwrite r hr] at hie htimer
  refine ⟨?_, fun h6 => ?_, fun h0 h5 => ?_, hie, htimer, fun h0 hon => ?_,
    fun h1 => (hlcd .stat h1.symm).trans ?_, fun h2 => hlcd .scy h2.symm, fun h3 => hlcd .scx h3.symm,
    fun h4 => hlcd .ly h4.symm, fun h5 => ?_, fun h6 => ⟨hlcd .dma h6.symm, ?_⟩, fun h7 => hlcd .bgp h7.symm,
    fun h8 => hlcd .obp0 h8.symm, fun h9 => hlcd .obp1 h9.symm, fun h10 => hlcd .wy h10.symm,
    fun h11 => (hlcd .wx h11.symm).trans ?_⟩
  · rw [hread, ← hr]
    cases r <;> rfl
  · rw [hdma r hr, if_neg]
    rintro rfl
    exact h6 hr.symm
  · rw [hiflag r hr, Lcd.writeReg_request, BitVec.or_zero]
    · rintro rfl
      exact h0 hr.symm
    · rintro rfl
      exact h5 hr.symm
  · rw [hlcd .lcdc h0.symm, hiflag .lcdc h0.symm, Lcd.writeReg, Lcd.writeLcdc_of_not_off hon]
    exact ⟨rfl, BitVec.or_zero⟩
  · rw [Lcd.writeReg, statWrite_eq_ofNat]
  · rw [hlcd .lyc h5.symm, hiflag .lyc h5.symm, Lcd.writeReg, Lcd.compareLy_eq]
    exact ⟨rfl, Lcd.statWithCompare_two _ _, fun i hi => Lcd.statWithCompare_getLsbD _ _ hi, rfl⟩
  · rw [hdma .dma h6.symm, if_pos rfl, Dma.start_eq]
  · rw [← Lcd.windowActive_eq]
    rfl

end Sys2Proof.Machine
end

section
/-! SUPPORT. The laws of bit vectors and of the line builder (49_lcd_dma.md R361, R363). -/

namespace Sys2Proof.Machine

open Sys2Proof

namespace Bits

theorem getLsbD_ofFn_of_lt {n i : Nat} (f : Nat → Bool) (hi : i < n) : (ofFn n f).getLsbD i = f i := by
  rw [getLsbD_ofFn, decide_eq_true hi, Bool.true_and]

section
variable {n m : Nat} (v : BitVec n) (s : Int) {i : Nat}

theorem extractWrapped_getLsbD (hi : i < m) :
    (extractWrapped v s m).getLsbD i = v.getLsbD ((s + i) % n).toNat := getLsbD_ofFn_of_lt _ hi

theorem extractZeroExtended_getLsbD (hi : i < m) : (extractZeroExtended v s m).getLsbD i =
    (decide (0 ≤ s + i) && decide (s + i < n) && v.getLsbD (s + i).toNat) :=
  (getLsbD_ofFn_of_lt _ hi).trans (getInt_eq v _)

theorem shift_getLsbD (hi : i < n) : (shift v s).getLsbD i =
    (decide (0 ≤ i - s) && decide (i - s < n) && v.getLsbD (i - s).toNat) :=
  (getLsbD_ofFn_of_lt _ hi).trans (getInt_eq v _)

theorem shift_zero : shift v 0 = v := by
  refine BitVec.eq_of_getLsbD_eq fun i hi => ?_
  rw [shift_getLsbD v 0 hi]
  simp [hi]

theorem extractWrapped_zero : extractWrapped v 0 n = v := by
  refine BitVec.eq_of_getLsbD_eq fun i hi => ?_
  rw [extractWrapped_getLsbD v 0 hi, zero_add, Int.emod_eq_of_lt (by omega) (by omega), Int.toNat_natCast]

theorem extractZeroExtended_zero : extractZeroExtended v 0 n = v := by
  refine BitVec.eq_of_getLsbD_eq fun i hi => ?_
  rw [extractZeroExtended_getLsbD v 0 hi]
  simp [hi]

end

end Bits

/-! ## The line builder (R363) -/

namespace LineBuilder

theorem setPlaneByte_getLsbD {n : Nat} (v : BitVec n) (k : Nat) (b : Byte) {x : Nat} (hx : x < n) :
    (setPlaneByte v k b).getLsbD x = if x / 8 = k then b.getLsbD (x % 8) else v.getLsbD x :=
  Bits.getLsbD_ofFn_of_lt _ hx

/-- The builder after bytes at its first `count` boundaries. -/
def filled (n : Nat) (m l : Nat → Byte) (count : Nat) : LineBuilder n :=
  (List.range count).foldl (fun d j => d.setBytes j (m j) (l j)) (empty n)

section
variable {n : Nat} (m l : Nat → Byte) {count x : Nat}

theorem filled_succ : filled n m l (count + 1) = (filled n m l count).setBytes count (m count) (l count) := by
  simp only [filled, List.range_succ, List.foldl_append, List.foldl_cons, List.foldl_nil]

/-- One more byte in a plane that holds the bytes before it. -/
theorem setPlaneByte_filled {v : BitVec n} {b : Nat → Byte} (hx : x < n)
    (hv : v.getLsbD x = (decide (x / 8 < count) && (b (x / 8)).getLsbD (x % 8))) :
    (setPlaneByte v count (b count)).getLsbD x = (decide (x / 8 < count + 1) && (b (x / 8)).getLsbD (x % 8)) := by
  rw [setPlaneByte_getLsbD _ _ _ hx, hv]
  split
  · next h => simp [h]
  · next h => rw [decide_eq_decide.mpr (show x / 8 < count + 1 ↔ x / 8 < count by omega)]

theorem filled_msb_getLsbD (hx : x < n) :
    (filled n m l count).msb.getLsbD x = (decide (x / 8 < count) && (m (x / 8)).getLsbD (x % 8)) := by
  induction count with
  | zero => simp [filled, empty]
  | succ count ih => rw [filled_succ, setBytes, setPlaneByte_filled hx ih]

theorem filled_lsb_getLsbD (hx : x < n) :
    (filled n m l count).lsb.getLsbD x = (decide (x / 8 < count) && (l (x / 8)).getLsbD (x % 8)) := by
  induction count with
  | zero => simp [filled, empty]
  | succ count ih => rw [filled_succ, setBytes, setPlaneByte_filled hx ih]

end

end LineBuilder

namespace ImageLine

section
variable {n : Nat} (a : ImageLine n) (x : Nat)

theorem color_getLsbD_one : (a.color x).getLsbD 1 = a.msb.getLsbD x := by
  rw [color]
  cases a.msb.getLsbD x <;> cases a.lsb.getLsbD x <;> rfl

theorem color_getLsbD_zero : (a.color x).getLsbD 0 = a.lsb.getLsbD x := by
  rw [color]
  cases a.msb.getLsbD x <;> cases a.lsb.getLsbD x <;> rfl

end

/-- A built pixel is opaque iff its color is not 0. -/
theorem isOpaque_build {n : Nat} (d : LineBuilder n) (x : Nat) :
    d.build.isOpaque x = decide (d.build.color x ≠ 0#2) := by
  have hbits : d.build.isOpaque x = ((d.build.color x).getLsbD 1 || (d.build.color x).getLsbD 0) := by
    rw [color_getLsbD_one, color_getLsbD_zero]
    exact BitVec.getLsbD_or
  rw [hbits]
  generalize d.build.color x = c
  revert c
  decide

section
variable (m l : Nat → Byte) {count k j : Nat}

/-- Pixel j of byte k, among `count` bytes. -/
theorem pixel_of_byte (hk : k < count) (hj : j < 8) :
    8 * k + j < 8 * count ∧ (8 * k + j) / 8 = k ∧ (8 * k + j) % 8 = j := by omega

theorem msbByte_filled (hk : k < count) : (LineBuilder.filled (8 * count) m l count).build.msbByte k = m k := by
  refine BitVec.eq_of_getLsbD_eq fun j hj => ?_
  obtain ⟨hx, hdiv, hmod⟩ := pixel_of_byte hk hj
  rw [msbByte, Bits.getLsbD_ofFn_of_lt _ hj, color_getLsbD_one, LineBuilder.build, LineBuilder.filled_msb_getLsbD m l hx,
    hdiv, hmod, decide_eq_true hk, Bool.true_and]

theorem lsbByte_filled (hk : k < count) : (LineBuilder.filled (8 * count) m l count).build.lsbByte k = l k := by
  refine BitVec.eq_of_getLsbD_eq fun j hj => ?_
  obtain ⟨hx, hdiv, hmod⟩ := pixel_of_byte hk hj
  rw [lsbByte, Bits.getLsbD_ofFn_of_lt _ hj, color_getLsbD_zero, LineBuilder.build, LineBuilder.filled_lsb_getLsbD m l hx,
    hdiv, hmod, decide_eq_true hk, Bool.true_and]

end

end ImageLine

/-- Settles O59: bit by bit, and for the builder by induction on the number of bytes set. -/
theorem pixelDataLaws : Obligations.PixelDataLaws := by
  refine ⟨fun n v _ => ⟨Bits.shift_zero v, Bits.extractWrapped_zero v, Bits.extractZeroExtended_zero v⟩,
    fun n m v s i _ => ⟨fun hi => Bits.extractWrapped_getLsbD v s hi, fun hi => Bits.extractZeroExtended_getLsbD v s hi,
      fun hi => Bits.shift_getLsbD v s hi⟩, ?_⟩
  rintro count m l k line hk rfl
  exact ⟨ImageLine.msbByte_filled m l hk, ImageLine.lsbByte_filled m l hk, fun x _ => ImageLine.isOpaque_build _ x⟩

end Sys2Proof.Machine
end

section
/-! SUPPORT. The pixels of the composed line on numbers (49_lcd_dma.md R366 to R368, R371 to R375). -/

namespace Sys2Proof.Machine

open Sys2Proof

/-! ## Palettes (R375) -/

theorem paletteColor_toNat (p : Byte) (i : BitVec 2) :
    (ImageLine.paletteColor p i).toNat = p.toNat / 4 ^ i.toNat % 4 := by
  rw [ImageLine.paletteColor, BitVec.truncate_eq_setWidth, BitVec.toNat_setWidth, BitVec.toNat_ushiftRight,
    Nat.shiftRight_eq_div_pow, Nat.pow_mul]

theorem color_mapColors {n : Nat} (a : ImageLine n) (p : Byte) {x : Nat} (hx : x < n) :
    (a.mapColors p).color x = ImageLine.paletteColor p (a.color x) :=
  ImageLine.color_ofPixels (fun x => ⟨ImageLine.paletteColor p (a.color x), false⟩) hx

namespace Compose

variable (read : Word → Byte)

/-! ## Tiles and maps (R366, R367) -/

theorem twoBits_toNat (hi lo : Bool) : (BitVec.ofBool hi ++ BitVec.ofBool lo).toNat = 2 * hi.toNat + lo.toNat := by
  cases hi <;> cases lo <;> rfl

theorem tilePixel_toNat (base row col : Nat) :
    (tilePixel read (BitVec.ofNat 16 base) row col).toNat = tileIndex read base row col := by
  rw [tilePixel, twoBits_toNat, getLsbD_toNat, getLsbD_toNat, ← BitVec.ofNat_add, ← BitVec.ofNat_add, tileIndex,
    Nat.add_assoc]

/-- Where a tile's data start. -/
def tileBase (unsignedTiles : Bool) (t : Nat) : Nat :=
  if unsignedTiles then 0x8000 + 16 * t else 0x8800 + 16 * ((t + 0x80) % 256)

theorem tileAddr_eq (t : Byte) (unsignedTiles : Bool) :
    tileAddr t unsignedTiles = BitVec.ofNat 16 (tileBase unsignedTiles t.toNat) := by
  have ht := t.isLt
  apply BitVec.eq_of_toNat_eq
  cases unsignedTiles <;>
    simp [tileAddr, tileBase, BitVec.toNat_add, BitVec.toNat_mul, Nat.mod_eq_of_lt (show t.toNat < 65536 by omega)]

theorem planePixel_toNat (unsignedTiles : Bool) (map px py : Nat) :
    (planePixel read unsignedTiles (BitVec.ofNat 16 map) px py).toNat = planeIndex read unsignedTiles map px py := by
  rw [planePixel, ← BitVec.ofNat_add, tileAddr_eq, tilePixel_toNat, planeIndex, Nat.add_assoc]
  rfl

theorem tileMap_eq (select : Bool) : tileMap select = BitVec.ofNat 16 (if select = true then 0x9C00 else 0x9800) := by
  cases select <;> rfl

/-! ## Background and window (R368, R373) -/

theorem pixelIs_bgpPixel (bgp : Byte) (i : BitVec 2) : PixelIs (bgpPixel bgp i) bgp i.toNat (decide (i.toNat ≠ 0)) := by
  refine ⟨paletteColor_toNat bgp i, ?_⟩
  show (i != 0#2) = decide (i.toNat ≠ 0)
  revert i
  decide

variable (l : Lcd) (x : Nat)

theorem backgroundPixel_on {i : Nat} (hi : i = planeIndex read (l.lcdc.getLsbD 4)
      (if l.lcdc.getLsbD 3 = true then 0x9C00 else 0x9800) ((x + l.scx.toNat) % 256) ((l.ly.toNat + l.scy.toNat) % 256))
    (h : l.lcdc.getLsbD 0 = true) : PixelIs (backgroundPixel read l x) l.bgp i (decide (i ≠ 0)) := by
  rw [hi, backgroundPixel, if_pos h, ← planePixel_toNat, ← tileMap_eq]
  exact pixelIs_bgpPixel _ _

theorem backgroundPixel_off (h : l.lcdc.getLsbD 0 = false) : backgroundPixel read l x = ⟨0#2, false⟩ := by
  rw [backgroundPixel, h, if_neg Bool.false_ne_true]

/-- The window pixel, its column counted from WX - 7. -/
theorem windowPixel_eq {i : Nat} (hwx : 7 ≤ l.wx.toNat) (hx : l.wx.toNat ≤ x + 7)
    (hi : i = planeIndex read (l.lcdc.getLsbD 4) (if l.lcdc.getLsbD 6 = true then 0x9C00 else 0x9800)
      (x - (l.wx.toNat - 7)) l.winLine) : PixelIs (windowPixel read l x) l.bgp i (decide (i ≠ 0)) := by
  rw [hi, windowPixel, show x + 7 - l.wx.toNat = x - (l.wx.toNat - 7) by omega, ← planePixel_toNat, ← tileMap_eq]
  exact pixelIs_bgpPixel _ _

/-! ## Sprites (R371) -/

/-- The palette a sprite's attributes choose. -/
def spritePalette (sp : Sprite) : Byte := if sp.attr.getLsbD 4 = true then l.obp1 else l.obp0

theorem and_FE_toNat (v : Byte) : (v &&& 0xFE#8).toNat = v.toNat / 2 * 2 := by revert v; decide +kernel

section
variable {read l x} {sp : Sprite}

theorem spritePixel_outside (h : ¬(sp.x.toNat ≤ x + 8 ∧ x < sp.x.toNat)) : spritePixel read l x sp = none := if_neg h

/-- In its eight columns a sprite's pixel is that of its index, painted unless it is 0. -/
theorem spritePixel_inside (h : sp.x.toNat ≤ x + 8 ∧ x < sp.x.toNat) :
    ∃ i : BitVec 2, i.toNat = spriteIndex read l sp x ∧ spritePixel read l x sp =
      if i = 0#2 then none else some ⟨ImageLine.paletteColor (spritePalette l sp) i, true⟩ := by
  refine ⟨_, ?_, if_pos h⟩
  have htile : (if l.lcdc.getLsbD 2 = true then sp.tile &&& 0xFE#8 else sp.tile).toNat =
      if l.lcdc.getLsbD 2 = true then sp.tile.toNat / 2 * 2 else sp.tile.toNat := by
    split
    · exact and_FE_toNat _
    · rfl
  have hbase : ∀ t : Byte, 0x8000#16 + 16#16 * t.zeroExtend 16 = BitVec.ofNat 16 (0x8000 + 16 * t.toNat) :=
    fun t => tileAddr_eq t true
  rw [hbase, tilePixel_toNat, htile]
  rfl

theorem spritePixel_of_not_paints (h : ¬spritePaints read l sp x) : spritePixel read l x sp = none := by
  by_cases hin : sp.x.toNat ≤ x + 8 ∧ x < sp.x.toNat
  · obtain ⟨i, hi, he⟩ := spritePixel_inside (read := read) (l := l) hin
    have hzero : i = 0#2 := by
      by_contra hne
      exact h ⟨hin.1, hin.2, fun h0 => hne (BitVec.eq_of_toNat_eq (hi.trans h0))⟩
    rw [he, if_pos hzero]
  · exact spritePixel_outside hin

theorem spritePixel_of_paints (h : spritePaints read l sp x) : ∃ p, spritePixel read l x sp = some p ∧
    PixelIs p (spritePalette l sp) (spriteIndex read l sp x) true := by
  obtain ⟨hleft, hright, hindex⟩ := h
  obtain ⟨i, hi, he⟩ := spritePixel_inside (read := read) (l := l) ⟨hleft, hright⟩
  have hne : i ≠ 0#2 := by
    rintro rfl
    exact hindex hi.symm
  refine ⟨_, he.trans (if_neg hne), ?_, rfl⟩
  rw [← hi]
  exact paletteColor_toNat _ i

theorem layerPixel_none {group : List Sprite} (h : ∀ sp ∈ group, ¬spritePaints read l sp x) :
    layerPixel read l group x = ⟨0#2, false⟩ := by
  have hnone : group.findSome? (spritePixel read l x) = none :=
    List.findSome?_eq_none_iff.mpr fun sp hsp => spritePixel_of_not_paints (h sp hsp)
  rw [layerPixel, hnone]
  rfl

theorem layerPixel_first {pre post : List Sprite} (hpre : ∀ q ∈ pre, ¬spritePaints read l q x)
    (hsp : spritePaints read l sp x) :
    PixelIs (layerPixel read l (pre ++ sp :: post) x) (spritePalette l sp) (spriteIndex read l sp x) true := by
  have hnone : pre.findSome? (spritePixel read l x) = none :=
    List.findSome?_eq_none_iff.mpr fun q hq => spritePixel_of_not_paints (hpre q hq)
  obtain ⟨p, hp, hpixel⟩ := spritePixel_of_paints hsp
  rw [layerPixel, List.findSome?_append, hnone, List.findSome?_cons, hp]
  exact hpixel

end

/-! ## The composition (R374) -/

section
variable {n : Nat} {x : Nat} (hx : x < n) (behind bg win front : Nat → Pixel)
include hx

/-- Behind and background, the background on top where it paints or the behind layer does not. -/
theorem color_under :
    ((ImageLine.ofPixels n behind).belowMask (ImageLine.ofPixels n bg)
      ((ImageLine.ofPixels n bg).opacity ||| ~~~(ImageLine.ofPixels n behind).opacity)).color x =
      if (behind x).painted = true ∧ (bg x).painted = false then (behind x).color else (bg x).color := by
  have hbg : (ImageLine.ofPixels n bg).opacity.getLsbD x = (bg x).painted := ImageLine.isOpaque_ofPixels bg hx
  have hbehind : (ImageLine.ofPixels n behind).opacity.getLsbD x = (behind x).painted :=
    ImageLine.isOpaque_ofPixels behind hx
  rw [ImageLine.color_belowMask _ _ _ hx, BitVec.getLsbD_or, BitVec.getLsbD_not, hbg, hbehind,
    ImageLine.color_ofPixels bg hx, ImageLine.color_ofPixels behind hx, decide_eq_true hx]
  cases (bg x).painted <;> cases (behind x).painted <;> rfl

theorem color_withWindow (under : ImageLine n) (drawn : Bool) (wx : Nat) :
    (if drawn then under.join (ImageLine.ofPixels n win) (wx - 7) else under).color x =
      if drawn = true ∧ wx ≤ x + 7 then (win x).color else under.color x := by
  cases drawn
  · rfl
  · simp only [if_true, true_and, ImageLine.color_join _ _ _ hx, ImageLine.color_ofPixels win hx]
    by_cases h : wx ≤ x + 7
    · rw [if_neg (by omega), if_pos h]
    · rw [if_pos (by omega), if_neg h]

theorem color_below_front (under : ImageLine n) : (under.below (ImageLine.ofPixels n front)).color x =
    if (front x).painted = true then (front x).color else under.color x := by
  rw [ImageLine.color_below _ _ hx, ImageLine.isOpaque_ofPixels front hx, ImageLine.color_ofPixels front hx]

end

/-- The composed line, pixel by pixel. -/
theorem color_line {x : Nat} (hx : x < Config.lcdWidth) : (line read l).color x =
    (let sprites := sortByX (selectSprites read l)
     let behind := layerPixel read l (sprites.filter (·.attr.getLsbD 7)) x
     let front := layerPixel read l (sprites.filter (!·.attr.getLsbD 7)) x
     let bg := backgroundPixel read l x
     if front.painted = true then front.color
     else if windowDrawn l = true ∧ l.wx.toNat ≤ x + 7 then (windowPixel read l x).color
     else if behind.painted = true ∧ bg.painted = false then behind.color else bg.color) := by
  rw [line, color_below_front hx, color_withWindow hx, color_under hx]

end Compose

/-- Settles O57: each source's pixel on numbers, then the line's three compositions one after the other. -/
theorem pixelPriority : Obligations.PixelPriority := by
  refine ⟨fun read l x i hi => ⟨Compose.backgroundPixel_on read l x hi, Compose.backgroundPixel_off read l x⟩,
    fun read l x i hwx hx hi => Compose.windowPixel_eq read l x hwx hx hi,
    fun read l x group => ⟨Compose.layerPixel_none, ?_⟩, ?_, paletteColor_toNat,
    fun n a p x hx => ⟨color_mapColors a p hx, rfl⟩⟩
  · rintro pre post sp rfl hpre hsp
    exact Compose.layerPixel_first hpre hsp
  · rintro read l x behind front bg win sprites hx rfl rfl rfl rfl rfl
    exact Compose.color_line read l hx

end Sys2Proof.Machine
end

section
/-! SUPPORT. Sprite selection and order (49_lcd_dma.md R369, R370): the places selected in OAM, and the insertions of the
sort by X. -/

namespace Sys2Proof.Machine

open Sys2Proof

namespace Compose

/-! ## Selection (R369) -/

section
variable (read : Word → Byte) (l : Lcd)

theorem onLine_iff (sp : Sprite) : onLine l sp = true ↔ sp.y.toNat ≤ l.ly.toNat + 16 ∧
    l.ly.toNat + 16 < sp.y.toNat + (if l.lcdc.getLsbD 2 = true then 16 else 8) := by
  rw [onLine, Bool.and_eq_true, decide_eq_true_eq, decide_eq_true_eq]
  rfl

/-- The places in OAM whose entries are on the line, in order. -/
def onLinePlaces : List Nat := (List.range 40).filter fun i => onLine l (sprite read i)

theorem selectSprites_of_on (h : l.lcdc.getLsbD 1 = true) :
    selectSprites read l = ((onLinePlaces read l).take 10).map (sprite read) := by
  rw [selectSprites, if_pos h, List.filter_map, List.map_take]
  rfl

theorem selectSprites_of_off (h : l.lcdc.getLsbD 1 = false) : selectSprites read l = [] := by
  rw [selectSprites, h, if_neg Bool.false_ne_true]

theorem mem_onLinePlaces {i : Nat} : i ∈ onLinePlaces read l ↔ i < 40 ∧ onLine l (sprite read i) = true := by
  rw [onLinePlaces, List.mem_filter, List.mem_range]

theorem pairwise_onLinePlaces : (onLinePlaces read l).Pairwise (· < ·) := List.pairwise_lt_range.filter _

/-- A member of a rising list stands among its first n, or after n of them. -/
theorem mem_take_or_after {ns : List Nat} (h : ns.Pairwise (· < ·)) {i n : Nat} (hi : i ∈ ns) :
    i ∈ ns.take n ∨ ((ns.take n).length = n ∧ ∀ j ∈ ns.take n, j < i) := by
  rw [← List.take_append_drop n ns] at h hi
  refine (List.mem_append.mp hi).imp_right fun hdrop => ⟨?_, fun j hj => (List.pairwise_append.mp h).2.2 j hj i hdrop⟩
  have hpos : 0 < (ns.drop n).length := List.length_pos_of_mem hdrop
  rw [List.length_drop] at hpos
  exact List.length_take_of_le (by omega)

theorem length_selectSprites_le : (selectSprites read l).length ≤ 10 := by
  rw [selectSprites]
  split
  · exact List.length_take_le _ _
  · exact Nat.zero_le _

theorem selectSprites_sublist : (selectSprites read l).Sublist ((List.range 40).map (sprite read)) := by
  rw [selectSprites]
  split
  · exact (List.take_sublist _ _).trans List.filter_sublist
  · exact List.nil_sublist _

theorem onLine_of_mem_selectSprites {sp : Sprite} (h : sp ∈ selectSprites read l) : onLine l sp = true := by
  rw [selectSprites] at h
  split at h
  · exact (List.mem_filter.mp (List.mem_of_mem_take h)).2
  · cases h

end

/-! ## The sort by X (R370) -/

/-- Rising in X. -/
abbrev RisingX (sprites : List Sprite) : Prop := sprites.Pairwise fun p q => p.x.toNat ≤ q.x.toNat

section
variable (sp : Sprite)

theorem insertByX_perm (qs : List Sprite) : (insertByX sp qs).Perm (sp :: qs) := by
  induction qs with
  | nil => exact .refl _
  | cons q qs ih =>
    rw [insertByX]
    split
    · exact .refl _
    · exact (ih.cons q).trans (.swap sp q qs)

theorem insertByX_rising {qs : List Sprite} (h : RisingX qs) : RisingX (insertByX sp qs) := by
  induction qs with
  | nil => exact List.pairwise_singleton _ _
  | cons q qs ih =>
    obtain ⟨hq, hqs⟩ := List.pairwise_cons.mp h
    rw [insertByX]
    split
    · next hlt =>
      refine List.pairwise_cons.mpr ⟨fun p hp => ?_, h⟩
      rcases List.mem_cons.mp hp with rfl | hp
      · exact hlt.le
      · exact hlt.le.trans (hq p hp)
    · next hge =>
      refine List.pairwise_cons.mpr ⟨fun p hp => ?_, ih hqs⟩
      rcases List.mem_cons.mp ((insertByX_perm sp qs).mem_iff.mp hp) with rfl | hp
      · exact Nat.not_lt.mp hge
      · exact hq p hp

/-- A sprite is inserted after every one of its X. -/
theorem insertByX_filter {qs : List Sprite} (h : RisingX qs) (x : Byte) :
    (insertByX sp qs).filter (·.x == x) = qs.filter (·.x == x) ++ [sp].filter (·.x == x) := by
  induction qs with
  | nil => rfl
  | cons q qs ih =>
    obtain ⟨hq, hqs⟩ := List.pairwise_cons.mp h
    rw [insertByX]
    split
    · next hlt =>
      by_cases hx : sp.x = x
      · have hnone : (q :: qs).filter (·.x == x) = [] := by
          refine List.filter_eq_nil_iff.mpr fun p hp he => ?_
          have hpx : p.x = sp.x := (eq_of_beq he).trans hx.symm
          rcases List.mem_cons.mp hp with rfl | hp
          · exact absurd hlt (by rw [hpx]; exact lt_irrefl _)
          · exact absurd (hlt.trans_le (hq p hp)) (by rw [hpx]; exact lt_irrefl _)
        rw [List.filter_cons, hnone, List.nil_append, List.filter_cons]
        rfl
      · rw [List.filter_cons_of_neg (by simpa using hx), List.filter_cons_of_neg (a := sp) (by simpa using hx),
          List.filter_nil, List.append_nil]
    · rw [List.filter_cons, List.filter_cons, ih hqs]
      split <;> rfl

end

theorem sortByX_concat (sprites : List Sprite) (sp : Sprite) :
    sortByX (sprites ++ [sp]) = insertByX sp (sortByX sprites) := by
  rw [sortByX, List.foldl_append]
  rfl

theorem sortByX_rising (sprites : List Sprite) : RisingX (sortByX sprites) := by
  induction sprites using List.reverseRecOn with
  | nil => exact .nil
  | append_singleton sprites sp ih =>
    rw [sortByX_concat]
    exact insertByX_rising sp ih

theorem sortByX_perm (sprites : List Sprite) : (sortByX sprites).Perm sprites := by
  induction sprites using List.reverseRecOn with
  | nil => exact .refl _
  | append_singleton sprites sp ih =>
    rw [sortByX_concat]
    exact (insertByX_perm sp _).trans ((ih.cons sp).trans (List.perm_append_singleton sp sprites).symm)

/-- Sprites of one X keep their order. -/
theorem sortByX_filter (sprites : List Sprite) (x : Byte) :
    (sortByX sprites).filter (·.x == x) = sprites.filter (·.x == x) := by
  induction sprites using List.reverseRecOn with
  | nil => rfl
  | append_singleton sprites sp ih =>
    rw [sortByX_concat, insertByX_filter sp (sortByX_rising sprites), ih, List.filter_append]

end Compose

/-- Settles O58: the selected places are the first ten of a rising list, and each sprite in turn is inserted after those of
its X. -/
theorem spriteSelectionAndOrder : Obligations.SpriteSelectionAndOrder := by
  rintro read l selected sorted rfl rfl
  refine ⟨Compose.length_selectSprites_le read l, Compose.selectSprites_sublist read l,
    fun sp hsp => (Compose.onLine_iff l sp).mp (Compose.onLine_of_mem_selectSprites read l hsp),
    Compose.selectSprites_of_off read l, fun hon => ?_, fun _ _ => rfl, Compose.sortByX_perm _, Compose.sortByX_rising _,
    Compose.sortByX_filter _⟩
  refine ⟨_, Compose.selectSprites_of_on read l hon, (Compose.pairwise_onLinePlaces read l).sublist (List.take_sublist _ _),
    fun i hi => ((Compose.mem_onLinePlaces read l).mp (List.mem_of_mem_take hi)).1, fun i hi habove hbelow => ?_⟩
  have hmem : i ∈ Compose.onLinePlaces read l :=
    (Compose.mem_onLinePlaces read l).mpr ⟨hi, (Compose.onLine_iff l _).mpr ⟨habove, hbelow⟩⟩
  exact Compose.mem_take_or_after (Compose.pairwise_onLinePlaces read l) hmem

end Sys2Proof.Machine
end

section
/-! SUPPORT. The OAM-DMA engine (49_lcd_dma.md R380 to R382): one step, and what n steps after a start have copied. -/

namespace Sys2Proof.Machine

open Sys2Proof

/-- The address of OAM byte k. -/
abbrev oamAddr (k : Nat) : Word := 0xFE00#16 + BitVec.ofNat 16 k

namespace State

/-! ## One step -/

theorem dmaStep_idle {s : State} (h : s.dma.active = false) : s.dmaStep = s := by
  rw [dmaStep, h, if_neg Bool.false_ne_true]

section
variable {s : State} {k : Nat} (hactive : s.dma.active = true) (hoffset : s.dma.offset = k)
include hactive hoffset

/-- An active engine's step is one store to OAM and the engine's advance. -/
theorem dmaStep_active : s.dmaStep =
    { s.busWrite (oamAddr k) (s.busRead (s.dma.source + BitVec.ofNat 16 k)) with
      dma := dmaAdvance (s.busWrite (oamAddr k) (s.busRead (s.dma.source + BitVec.ofNat 16 k))).dma } := by
  rw [dmaStep, if_pos hactive, hoffset]

theorem dmaStep_frame (hk : k < 160) :
    s.dmaStep = { s with mem := s.dmaStep.mem, dma := ⟨decide (k ≠ 159), s.dma.source, k + 1⟩ } := by
  have hdma : dmaAdvance s.dma = ⟨decide (k ≠ 159), s.dma.source, k + 1⟩ := by
    have hlast : k + 1 ≠ 160 ↔ k ≠ 159 := by omega
    rw [dmaAdvance, hactive, hoffset, Bool.true_and, decide_eq_decide.mpr hlast]
  rw [dmaStep_active hactive hoffset, busWrite_oam s hk, hdma]

theorem dmaStep_copies (hplain : plainByte s.bus (oamAddr k) = true) :
    s.dmaStep.busRead (oamAddr k) = s.busRead (s.dma.source + BitVec.ofNat 16 k) := by
  rw [dmaStep_active hactive hoffset]
  exact busRead_busWrite_same hplain _

theorem dmaStep_busRead_other {b : Word} (h : affects s.bus (oamAddr k) b = false) :
    s.dmaStep.busRead b = s.busRead b := by
  rw [dmaStep_active hactive hoffset]
  exact busRead_busWrite_other h _

end

/-! ## A whole transfer -/

/-- After n steps of a transfer of `page` from `s`: the bytes copied so far, the engine, and the reads that no store so
far may affect. -/
structure Copied (s : State) (page : Byte) (n : Nat) (u : State) : Prop where
  bus : u.bus = s.bus
  dma : u.dma = ⟨decide (n ≠ 160), BitVec.ofNat 16 (256 * page.toNat), n⟩
  copied : ∀ k, k < n → u.busRead (oamAddr k) = s.busRead (BitVec.ofNat 16 (256 * page.toNat + k))
  others : ∀ b, (∀ k, k < n → affects s.bus (oamAddr k) b = false) → u.busRead b = s.busRead b

section
variable {s : State} {page : Byte}

theorem copied_zero (hstart : s.dma = Dma.start page) : Copied s page 0 s where
  bus := rfl
  dma := by rw [hstart, Dma.start_eq, decide_eq_true (by decide)]
  copied _ hk := absurd hk (Nat.not_lt_zero _)
  others _ _ := rfl

/-- The next step copies byte n: the source byte is still as it was, and no byte copied before is overwritten. -/
theorem Copied.step {n : Nat} {u : State} (h : Copied s page n u) (hn : n < 160)
    (hplain : plainByte s.bus (oamAddr n) = true)
    (hkeeps : ∀ k, k < n → affects s.bus (oamAddr n) (oamAddr k) = false)
    (hsource : ∀ k, k < n → affects s.bus (oamAddr k) (BitVec.ofNat 16 (256 * page.toNat + n)) = false) :
    Copied s page (n + 1) u.dmaStep := by
  have hactive : u.dma.active = true := by rw [h.dma, decide_eq_true (by omega)]
  have hoffset : u.dma.offset = n := by rw [h.dma]
  have hsrc : u.dma.source + BitVec.ofNat 16 n = BitVec.ofNat 16 (256 * page.toNat + n) := by
    rw [h.dma, BitVec.ofNat_add]
  have hother : ∀ b, affects s.bus (oamAddr n) b = false → u.dmaStep.busRead b = u.busRead b := fun b hb =>
    dmaStep_busRead_other hactive hoffset (by rwa [h.bus])
  have hframe := dmaStep_frame hactive hoffset hn
  refine ⟨by rw [hframe, h.bus], ?_, fun k hk => ?_, fun b hb => ?_⟩
  · rw [hframe, h.dma, decide_eq_decide.mpr (show n ≠ 159 ↔ n + 1 ≠ 160 by omega)]
  · rcases Nat.lt_succ_iff_lt_or_eq.mp hk with hlt | rfl
    · rw [hother _ (hkeeps k hlt), h.copied k hlt]
    · rw [dmaStep_copies hactive hoffset (by rwa [h.bus]), hsrc, h.others _ hsource]
  · rw [hother b (hb n (Nat.lt_succ_self n)), h.others b fun k hk => hb k (Nat.lt_succ_of_lt hk)]

end

end State

/-- Settles O60: a step by its store to OAM, and the transfer by induction on the bytes copied. -/
theorem dmaCopiesThePage : Obligations.DmaCopiesThePage := by
  refine ⟨fun s => State.dmaStep_idle, ?_, fun s page hstart hplain hapart => ?_⟩
  · rintro s t k hactive hoffset hk rfl
    exact ⟨State.dmaStep_frame hactive hoffset hk, State.dmaStep_copies hactive hoffset,
      fun b => State.dmaStep_busRead_other hactive hoffset⟩
  · have hcopied : ∀ n, n ≤ 160 → State.Copied s page n (State.dmaSteps n s) := fun n hn => by
      induction n with
      | zero => exact State.copied_zero hstart
      | succ n ih =>
        exact (ih (Nat.le_of_succ_le hn)).step hn (hplain n hn) (fun k hk => (hapart k n hk hn).1)
          fun k hk => (hapart k n hk hn).2
    have hall := hcopied 160 le_rfl
    exact ⟨hall.copied, hall.dma, hall.others⟩

end Sys2Proof.Machine
end
